-- ==== Sys2Proof/Word.lean ====
section
/-! DEFINITION. The widths the manual names (bytes, tags, field addresses, 16-bit words) and the timebase's unit. -/

namespace Sys2Proof

/-- One byte of a frame, of a payload or of a C-port message. -/
abbrev Byte := BitVec 8

/-- A 16-bit word: a field address, an output word, a class mask. -/
abbrev Word := BitVec 16

/-- A frame tag, 0 to 15 (section 0.5.5). -/
abbrev Tag := Fin 16

/-- A field address of a relayed command, 0x0000 to 0xFFFF (chapter 9). -/
abbrev Addr := BitVec 16

/-- A rail by its index: 0 is rail 1, 1 is rail 2, 2 is rail 3 (section 0.5.5). -/
abbrev Rail := Fin 3

/-- A heater zone, 0 to 3. -/
abbrev Zone := Fin 4

/-- A probe channel, 0 to 15. -/
abbrev Channel := Fin 16

/-- A keypad position, row times 8 plus column, 0 to 63 (section 0.5.5). -/
abbrev Position := Fin 64

/-- `n` milliseconds in units of the model's timebase. The unit is 1/8 ms: a duty step of 15.625 ms (Table 0-3) is
125 units, so every duration of the manual is a whole number of units. DESIGN CHOICE (log 1), safe. -/
def ms (n : Nat) : Nat := 8 * n

/-- `n` seconds in units of the timebase. -/
def sec (n : Nat) : Nat := 8000 * n

/-- `n` minutes in units of the timebase. -/
def minutes (n : Nat) : Nat := 480000 * n

end Sys2Proof
end

