-- ==== Sys2Proof/Config.lean ====
section
/-! DEFINITION. The sizes and periods the manual fixes for the part, and the free value of the model. -/

namespace Sys2Proof

/-- FREE VALUE. The order in which the timebase raises events whose moments have come together: the manual says that either
may be taken first (section 0.5.3), so nothing constrains it. Applied to `State.choice` (log 2), safe. -/
opaque Config.nextDue : Nat → Nat

/-- The reply queue has 12 entries (R162). -/
def Config.replyEntries : Nat := 12

/-- The notice queue holds up to 16 notices (R164). -/
def Config.noticeEntries : Nat := 16

/-- The relay holds at most 8 commands, queued or in flight (R148). -/
def Config.relayEntries : Nat := 8

/-- The layer stack holds up to 6 entries (R130). -/
def Config.stackEntries : Nat := 6

/-- The restart log holds up to 8 records (R110). -/
def Config.logEntries : Nat := 8

/-- The control period, 1000 ms (R29). -/
def Config.controlPeriod : Nat := ms 1000

/-- The layer tick, 100 ms (R137). -/
def Config.layerTick : Nat := ms 100

/-- A store completes within 400 ms of its take (R169). -/
def Config.storeBound : Nat := ms 400

/-- The greatest payload of a P-port frame (Table 10-1). -/
def Config.maxPayload : Nat := 48

/-- Bytes of a status record carried by one part (R167). -/
def Config.partBytes : Nat := 46

end Sys2Proof
end

