-- ==== Sys2Proof/Syntax.lean ====
section
/-! DEFINITION. The commands: one constructor per row of spec/opcode_table.json, in the table's order. -/

namespace Sys2Proof

/-- A command the part takes. A P-port frame carries its tag and its payload: single fields are operands of their width, a
record is its payload bytes as R159 lays them out. Two kinds of operand are not fields of the manual: `resultFirst` and
`requestFirst` choose between two orders that R150 and R140 leave open inside one step (log 9). -/
inductive Instr where
  /-- Supply is applied (R170). -/
  | powerOn
  /-- The image load completes (R2). -/
  | imageLoadComplete
  /-- READ: address, length byte (R147). -/
  | read (tag : Tag) (address : Addr) (length : Byte)
  /-- WRITE: address, data bytes (R147). -/
  | write (tag : Tag) (address : Addr) (data : List Byte)
  /-- HEARTBEAT: sequence byte (R95). -/
  | heartbeat (tag : Tag) (seq : Byte)
  /-- HOST_RESTART: kind, SOFT 0 or HARD 1 (R107). -/
  | hostRestart (tag : Tag) (kind : Byte)
  /-- SHUTDOWN: keep-warm flag (R17). -/
  | shutdown (tag : Tag) (keepWarm : Byte)
  /-- LOAD_SEQUENCE: a sequence record (R3). -/
  | loadSequence (tag : Tag) (payload : List Byte)
  /-- LOAD_LADDER: a ladder record (R93). -/
  | loadLadder (tag : Tag) (payload : List Byte)
  /-- LOAD_ZONE: zone number, zone record (R23). -/
  | loadZone (tag : Tag) (payload : List Byte)
  /-- LOAD_BUDGET: a budget record (R26). -/
  | loadBudget (tag : Tag) (payload : List Byte)
  /-- LOAD_CHANNEL: channel number, channel table entry (R45). -/
  | loadChannel (tag : Tag) (payload : List Byte)
  /-- LOAD_POLL: a poll record (R47). -/
  | loadPoll (tag : Tag) (payload : List Byte)
  /-- LOAD_ACTION: way selector, entry record (R75). -/
  | loadAction (tag : Tag) (payload : List Byte)
  /-- LOCK_ACTIONS: count, protect value (R87). -/
  | lockActions (tag : Tag) (count protect : Byte)
  /-- FLUSH_ACTIONS (R88). -/
  | flushActions (tag : Tag)
  /-- LOAD_WINDOW: window index, window table entry (R145). -/
  | loadWindow (tag : Tag) (payload : List Byte)
  /-- LOAD_KEYPAD: a keypad record (R113); `requestFirst` as for SCAN_COMPLETE. -/
  | loadKeypad (tag : Tag) (payload : List Byte) (requestFirst : BitVec 64)
  /-- LOAD_KEYMAP of 9 bytes: form, layer, position, entry (R128). -/
  | loadKeymapEntry (tag : Tag) (payload : List Byte)
  /-- LOAD_KEYMAP of 3 bytes: form, layer timeout (R128). -/
  | loadKeymapSettings (tag : Tag) (payload : List Byte)
  /-- CLEAR_LAYERS (R139). -/
  | clearLayers (tag : Tag)
  /-- SET_FLAGS: set mask, clear mask (R72). -/
  | setFlags (tag : Tag) (set clear : Byte)
  /-- WRITE_OUTPUTS: mode, data word (R172). -/
  | writeOutputs (tag : Tag) (mode : Byte) (data : Word)
  /-- SET_OUTPUT_MASK: plane mask, foreground word, indicator enable (R172). -/
  | setOutputMask (tag : Tag) (plane foreground : Word) (indicator : Byte)
  /-- ERROR_CLEAR: class mask (R176). -/
  | errorClear (tag : Tag) (mask : Word)
  /-- SET_IGNORE: ignore mask (R176). -/
  | setIgnore (tag : Tag) (mask : Word)
  /-- COUNTER_SELECT: counter number, event code (R178). -/
  | counterSelect (tag : Tag) (counter event : Byte)
  /-- STATUS_READ HOST: part number (R112). -/
  | statusReadHost (tag : Tag) (part : Byte)
  /-- STATUS_READ LOG: part number, index (R112). -/
  | statusReadLog (tag : Tag) (part index : Byte)
  /-- STATUS_READ HEAT: part number (R43). -/
  | statusReadHeat (tag : Tag) (part : Byte)
  /-- STATUS_READ PROBE: part number, channel (R61). -/
  | statusReadProbe (tag : Tag) (part channel : Byte)
  /-- STATUS_READ CONDITIONS: part number (R73). -/
  | statusReadConditions (tag : Tag) (part : Byte)
  /-- STATUS_READ ACTIONS: part number, set (R91). -/
  | statusReadActions (tag : Tag) (part set : Byte)
  /-- STATUS_READ KEYPAD: part number (R127). -/
  | statusReadKeypad (tag : Tag) (part : Byte)
  /-- STATUS_READ KEYMAP: part number, layer, position (R144). -/
  | statusReadKeymap (tag : Tag) (part layer position : Byte)
  /-- STATUS_READ RELAY: part number (R158). -/
  | statusReadRelay (tag : Tag) (part : Byte)
  /-- STATUS_READ OUTPUTS: part number (R173). -/
  | statusReadOutputs (tag : Tag) (part : Byte)
  /-- STATUS_READ ERRORS: part number (R177). -/
  | statusReadErrors (tag : Tag) (part : Byte)
  /-- STATUS_READ COUNTERS: part number (R178). -/
  | statusReadCounters (tag : Tag) (part : Byte)
  /-- STATUS_READ LINK: part number (R167). -/
  | statusReadLink (tag : Tag) (part : Byte)
  /-- STORE_IMAGE: speed code (R169). -/
  | storeImage (tag : Tag) (speed : Byte)
  /-- The store completes (R169). -/
  | storeComplete
  /-- SUPERVISOR_RESET (R168). -/
  | supervisorReset (tag : Tag)
  /-- A received frame whose CRC-16 does not match (R161). -/
  | hostCheckFrame
  /-- A malformed frame whose check passes: its tag, its code byte, its address (R161). -/
  | malformedFrame (tag : Tag) (opCode : Byte) (address : Addr)
  /-- A frame whose length byte is above 48 (R160). -/
  | frameLengthAbandon
  /-- An idle gap within a frame (R160). -/
  | frameIdleAbandon
  /-- The transmitter completes a frame (R165). -/
  | transmitComplete
  /-- The preheat timer expires (R10). -/
  | preheatTimerExpiry
  /-- The soak timer expires (R8). -/
  | soakTimerExpiry
  /-- A power-good input rises (R12). -/
  | powerGoodArrival (rail : Rail)
  /-- The pg timeout of the rail in WAIT_PG expires (R13). -/
  | pgTimeoutExpiry
  /-- The settle time of the rail in SETTLE expires (R12). -/
  | settleExpiry
  /-- A power-good input falls (R14). -/
  | powerGoodFall (rail : Rail)
  /-- The drain timer expires (R19). -/
  | drainTimerExpiry
  /-- The off settle expires (R20). -/
  | offSettleExpiry
  /-- A rising edge of WAKE (R22). -/
  | wakeEdge
  /-- The boot window timer expires (R92). -/
  | bootWindowExpiry
  /-- The heartbeat timer expires (R97). -/
  | heartbeatTimerExpiry
  /-- The grace timer expires (R98). -/
  | graceExpiry
  /-- The stable timer reaches the stable time (R99). -/
  | stableTimeReached
  /-- The reset pulse timer expires (R102). -/
  | resetPulseExpiry
  /-- The power-off timer expires (R104). -/
  | powerOffExpiry
  /-- The lockout retry timer expires (R106). -/
  | lockoutRetryExpiry
  /-- A control period starts (R29). -/
  | controlPeriodStart
  /-- A drive window of the zone begins or ends (R40). -/
  | driveWindowEdge (zone : Zone)
  /-- The channel's due time is reached (R49). -/
  | dueTimeReached (channel : Channel)
  /-- A complete C-port reply arrives, its bytes in order (R149); `resultFirst` says that the Probe Scheduler takes the
  result of a poll before the arbiter's next grant (R150). -/
  | fieldReply (bytes : List Byte) (resultFirst : Bool)
  /-- The field timeout expires (R149); `resultFirst` as for FIELD_REPLY. -/
  | fieldTimeoutExpiry (resultFirst : Bool)
  /-- An idle gap within a C-port reply (R149). -/
  | cPortReplyGap
  /-- A keypad scan starts (R114). -/
  | scanStart
  /-- A keypad scan completes: bit p of `readings` is 1 when position p reads closed (R117). Bit p of `requestFirst` says
  that the Host Power Controller takes position p's service request before the termination check of its press (R140). -/
  | scanComplete (readings requestFirst : BitVec 64)
  /-- The arm delay of a position expires (R134). -/
  | armDelayExpiry (position : Position)
  /-- The layer tick falls (R137). -/
  | layerTick
  /-- The last byte of a C-port request has been sent (R149). -/
  | cPortRequestEnd
  /-- Supply is removed (R170). -/
  | powerLoss
deriving DecidableEq, Repr

end Sys2Proof
end

