-- ==== Sys2Proof/WellFormed.lean ====
section
/-! DEFINITION. Which terms of Instr are the frames their row names: a payload of the length Table 10-3 gives its op (R161),
a READ length byte of 1 to 16. Every other frame of that op is malformed, and `exec` takes it so. -/

namespace Sys2Proof

/-- A READ's payload byte is 1 to 16 (R161). -/
def readLengthFits (length : Byte) : Bool := 1 ≤ length.toNat && length.toNat ≤ 16

/-- A WRITE carries 1 to 16 data bytes (Table 10-3). -/
def writeLengthFits (data : List Byte) : Bool := 1 ≤ data.length && data.length ≤ 16

/-- The frame is not malformed by its length or its READ byte (R161, Table 10-3). The operands of the other operations have
the width their payload gives them, and the events that are no frames carry nothing that could be malformed. -/
def Instr.wellFormed : Instr → Bool
  | .read _ _ length => readLengthFits length
  | .write _ _ data => writeLengthFits data
  | .loadSequence _ p => p.length == 24
  | .loadLadder _ p => p.length == 19
  | .loadZone _ p => p.length == 25
  | .loadBudget _ p => p.length == 8
  | .loadChannel _ p => p.length == 8
  | .loadPoll _ p => p.length == 7
  | .loadAction _ p => p.length == 17
  | .loadWindow _ p => p.length == 9
  | .loadKeypad _ p _ => p.length == 7
  | .loadKeymapEntry _ p => p.length == 9
  | .loadKeymapSettings _ p => p.length == 3
  | .powerOn | .imageLoadComplete | .heartbeat _ _ | .hostRestart _ _ | .shutdown _ _
  | .lockActions _ _ _ | .flushActions _ | .clearLayers _ | .setFlags _ _ _ | .writeOutputs _ _ _
  | .setOutputMask _ _ _ _ | .errorClear _ _ | .setIgnore _ _ | .counterSelect _ _ _ | .statusReadHost _ _
  | .statusReadLog _ _ _ | .statusReadHeat _ _ | .statusReadProbe _ _ _ | .statusReadConditions _ _
  | .statusReadActions _ _ _ | .statusReadKeypad _ _ | .statusReadKeymap _ _ _ _ | .statusReadRelay _ _
  | .statusReadOutputs _ _ | .statusReadErrors _ _ | .statusReadCounters _ _ | .statusReadLink _ _ | .storeImage _ _
  | .storeComplete | .supervisorReset _ | .hostCheckFrame | .malformedFrame _ _ _ | .frameLengthAbandon
  | .frameIdleAbandon | .transmitComplete | .preheatTimerExpiry | .soakTimerExpiry | .powerGoodArrival _
  | .pgTimeoutExpiry | .settleExpiry | .powerGoodFall _ | .drainTimerExpiry | .offSettleExpiry | .wakeEdge
  | .bootWindowExpiry | .heartbeatTimerExpiry | .graceExpiry | .stableTimeReached | .resetPulseExpiry | .powerOffExpiry
  | .lockoutRetryExpiry | .controlPeriodStart | .driveWindowEdge _ | .dueTimeReached _ | .fieldReply _ _
  | .fieldTimeoutExpiry _ | .cPortReplyGap | .scanStart | .scanComplete _ _ | .armDelayExpiry _ | .layerTick
  | .cPortRequestEnd | .powerLoss => true

end Sys2Proof
end

