-- ==== Sys2Proof/Decode.lean ====
section
/-! DEFINITION. The P-port frame (Table 10-1): the CRC-16, the op codes, the commands a received frame spells (R160, R161)
and the frame of a command. spec/opcode_table.json gives no row bits, so `decodeTableWord` reads no command from a word. -/

namespace Sys2Proof

/-- The command a word spells by the table's bits: no row of the table has any. -/
def decodeTableWord (_nbits _w : Nat) : Option Instr := none

/-- One bit of the CRC-16: shift left, and add the polynomial x^16 + x^12 + x^5 + 1 when a 1 leaves (Table 0-5). -/
def crcBit (crc : Word) : Word :=
  if crc.msb then (crc <<< 1) ^^^ 0x1021#16 else crc <<< 1

/-- One byte of the CRC-16, most significant bit first. -/
def crcByte (crc : Word) (b : Byte) : Word :=
  let c := crc ^^^ (b.setWidth 16 <<< 8)
  crcBit (crcBit (crcBit (crcBit (crcBit (crcBit (crcBit (crcBit c)))))))

/-- The CRC-16 of Table 0-5: initial value 0xFFFF, no reflection, no final XOR. -/
def crc16 (bytes : List Byte) : Word := bytes.foldl crcByte 0xFFFF#16

/-- A value in one byte, unsigned (R159). -/
def byte1 (n : Nat) : List Byte := [BitVec.ofNat 8 n]

/-- A value in two bytes, more significant byte first (R159). -/
def byte2 (n : Nat) : List Byte := [BitVec.ofNat 8 (n / 256), BitVec.ofNat 8 n]

/-- A value in four bytes, more significant byte first (R159). -/
def byte4 (n : Nat) : List Byte := byte2 (n / 65536) ++ byte2 (n % 65536)

/-- A 16-bit word in two bytes, more significant byte first. -/
def wordBytes (w : Word) : List Byte := byte2 w.toNat

/-- The byte at an offset; a payload read past its end reads 0. -/
def u8 (p : List Byte) (at_ : Nat) : Nat := (p.getD at_ 0).toNat

/-- The two bytes at an offset, more significant first, unsigned. -/
def u16 (p : List Byte) (at_ : Nat) : Nat := 256 * u8 p at_ + u8 p (at_ + 1)

/-- The four bytes at an offset, more significant first, unsigned. -/
def u32 (p : List Byte) (at_ : Nat) : Nat := 65536 * u16 p at_ + u16 p (at_ + 2)

/-- Two bytes in two's complement. -/
def s16 (p : List Byte) (at_ : Nat) : Int :=
  if u16 p at_ < 32768 then u16 p at_ else (u16 p at_ : Int) - 65536

/-- Four bytes in two's complement. -/
def s32 (p : List Byte) (at_ : Nat) : Int :=
  if u32 p at_ < 2147483648 then u32 p at_ else (u32 p at_ : Int) - 4294967296

/-- A signed value in two bytes, two's complement. -/
def int2 (i : Int) : List Byte := byte2 (i % 65536).toNat

/-- A signed value in four bytes, two's complement. -/
def int4 (i : Int) : List Byte := byte4 (i % 4294967296).toNat

/-- The op code of a command that is a frame (Table 10-3). -/
def opCode : Instr → Option Nat
  | .read _ _ _ => some 0x01
  | .write _ _ _ => some 0x02
  | .heartbeat _ _ => some 0x10
  | .hostRestart _ _ => some 0x11
  | .shutdown _ _ => some 0x12
  | .loadSequence _ _ => some 0x13
  | .loadLadder _ _ => some 0x14
  | .loadZone _ _ => some 0x20
  | .loadBudget _ _ => some 0x21
  | .loadChannel _ _ => some 0x22
  | .loadPoll _ _ => some 0x23
  | .loadAction _ _ => some 0x24
  | .lockActions _ _ _ => some 0x25
  | .flushActions _ => some 0x26
  | .loadWindow _ _ => some 0x28
  | .loadKeypad _ _ _ => some 0x30
  | .loadKeymapEntry _ _ | .loadKeymapSettings _ _ => some 0x31
  | .clearLayers _ => some 0x32
  | .setFlags _ _ _ => some 0x38
  | .writeOutputs _ _ _ => some 0x40
  | .setOutputMask _ _ _ _ => some 0x41
  | .errorClear _ _ => some 0x48
  | .setIgnore _ _ => some 0x49
  | .counterSelect _ _ _ => some 0x4A
  | .statusReadHost _ _ | .statusReadLog _ _ _ | .statusReadHeat _ _ | .statusReadProbe _ _ _
  | .statusReadConditions _ _ | .statusReadActions _ _ _ | .statusReadKeypad _ _ | .statusReadKeymap _ _ _ _
  | .statusReadRelay _ _ | .statusReadOutputs _ _ | .statusReadErrors _ _ | .statusReadCounters _ _
  | .statusReadLink _ _ => some 0x50
  | .storeImage _ _ => some 0x58
  | .supervisorReset _ => some 0x5F
  | .powerOn | .imageLoadComplete | .storeComplete | .hostCheckFrame | .malformedFrame _ _ _ | .frameLengthAbandon
  | .frameIdleAbandon | .transmitComplete | .preheatTimerExpiry | .soakTimerExpiry | .powerGoodArrival _
  | .pgTimeoutExpiry | .settleExpiry | .powerGoodFall _ | .drainTimerExpiry | .offSettleExpiry | .wakeEdge
  | .bootWindowExpiry | .heartbeatTimerExpiry | .graceExpiry | .stableTimeReached | .resetPulseExpiry | .powerOffExpiry
  | .lockoutRetryExpiry | .controlPeriodStart | .driveWindowEdge _ | .dueTimeReached _ | .fieldReply _ _
  | .fieldTimeoutExpiry _ | .cPortReplyGap | .scanStart | .scanComplete _ _ | .armDelayExpiry _ | .layerTick
  | .cPortRequestEnd | .powerLoss => none

/-- Tag, field address and payload of a command that is a frame (Tables 10-1 and 10-3, R167 for STATUS_READ: selector,
part number, argument). The address is 0 but for READ and WRITE. -/
def frameFields : Instr → Option (Tag × Addr × List Byte)
  | .read t a n => some (t, a, [n])
  | .write t a d => some (t, a, d)
  | .heartbeat t b | .hostRestart t b | .shutdown t b | .storeImage t b => some (t, 0, [b])
  | .loadSequence t p | .loadLadder t p | .loadZone t p | .loadBudget t p | .loadChannel t p | .loadPoll t p
  | .loadAction t p | .loadWindow t p | .loadKeypad t p _ | .loadKeymapEntry t p
  | .loadKeymapSettings t p => some (t, 0, p)
  | .lockActions t a b | .setFlags t a b | .counterSelect t a b => some (t, 0, [a, b])
  | .flushActions t | .clearLayers t | .supervisorReset t => some (t, 0, [])
  | .writeOutputs t m d => some (t, 0, m :: wordBytes d)
  | .setOutputMask t p f i => some (t, 0, wordBytes p ++ wordBytes f ++ [i])
  | .errorClear t m | .setIgnore t m => some (t, 0, wordBytes m)
  | .statusReadHost t k => some (t, 0, [0x01, k])
  | .statusReadLog t k i => some (t, 0, [0x02, k, i])
  | .statusReadHeat t k => some (t, 0, [0x03, k])
  | .statusReadProbe t k c => some (t, 0, [0x04, k, c])
  | .statusReadConditions t k => some (t, 0, [0x05, k])
  | .statusReadActions t k n => some (t, 0, [0x06, k, n])
  | .statusReadKeypad t k => some (t, 0, [0x07, k])
  | .statusReadKeymap t k l p => some (t, 0, [0x08, k, l, p])
  | .statusReadRelay t k => some (t, 0, [0x09, k])
  | .statusReadOutputs t k => some (t, 0, [0x0A, k])
  | .statusReadErrors t k => some (t, 0, [0x0B, k])
  | .statusReadCounters t k => some (t, 0, [0x0C, k])
  | .statusReadLink t k => some (t, 0, [0x0D, k])
  | .powerOn | .imageLoadComplete | .storeComplete | .hostCheckFrame | .malformedFrame _ _ _ | .frameLengthAbandon
  | .frameIdleAbandon | .transmitComplete | .preheatTimerExpiry | .soakTimerExpiry | .powerGoodArrival _
  | .pgTimeoutExpiry | .settleExpiry | .powerGoodFall _ | .drainTimerExpiry | .offSettleExpiry | .wakeEdge
  | .bootWindowExpiry | .heartbeatTimerExpiry | .graceExpiry | .stableTimeReached | .resetPulseExpiry | .powerOffExpiry
  | .lockoutRetryExpiry | .controlPeriodStart | .driveWindowEdge _ | .dueTimeReached _ | .fieldReply _ _
  | .fieldTimeoutExpiry _ | .cPortReplyGap | .scanStart | .scanComplete _ _ | .armDelayExpiry _ | .layerTick
  | .cPortRequestEnd | .powerLoss => none

/-- The bytes of a frame from its header on, with its check (Table 10-1). -/
def withCheck (body : List Byte) : List Byte := body ++ wordBytes (crc16 body)

/-- A whole frame of Table 10-1: kind is 0 COMMAND, 1 REPLY, 2 NOTICE (Table 10-2). -/
def frameBytes (kind : Nat) (tag : Tag) (code : Nat) (address : Addr) (payload : List Byte) : List Byte :=
  0xA5#8 :: withCheck (byte1 (64 * kind + tag.val) ++ byte1 code ++ wordBytes address ++ byte1 payload.length ++ payload)

/-- The COMMAND frame that spells a command, for the commands that are frames. -/
def commandFrame (i : Instr) : Option (List Byte) :=
  match opCode i, frameFields i with
  | some op, some (tag, address, payload) => some (frameBytes 0 tag op address payload)
  | _, _ => none

/-- The 16-bit value of two payload bytes. -/
def word16 (p : List Byte) (at_ : Nat) : Word := BitVec.ofNat 16 (u16 p at_)

/-- The STATUS_READ operation of a selector with its part number and argument (R167). An op whose selector is not in
Table 10-8 is refused BAD_REQUEST like a malformed frame, and so is one whose length does not suit its selector. -/
def statusCommand (tag : Tag) (p : List Byte) : Option Instr :=
  match p with
  | [s, k] =>
    match s.toNat with
    | 0x01 => some (.statusReadHost tag k)
    | 0x03 => some (.statusReadHeat tag k)
    | 0x05 => some (.statusReadConditions tag k)
    | 0x07 => some (.statusReadKeypad tag k)
    | 0x09 => some (.statusReadRelay tag k)
    | 0x0A => some (.statusReadOutputs tag k)
    | 0x0B => some (.statusReadErrors tag k)
    | 0x0C => some (.statusReadCounters tag k)
    | 0x0D => some (.statusReadLink tag k)
    | _ => none
  | [s, k, x] =>
    match s.toNat with
    | 0x02 => some (.statusReadLog tag k x)
    | 0x04 => some (.statusReadProbe tag k x)
    | 0x06 => some (.statusReadActions tag k x)
    | _ => none
  | [s, k, l, x] => if s.toNat = 0x08 then some (.statusReadKeymap tag k l x) else none
  | _ => none

/-- The operation that an op code and a payload spell, where Table 10-3 has the op and its length (R161). -/
def supervisorCommand (order : BitVec 64) (op : Nat) (tag : Tag) (p : List Byte) : Option Instr :=
  match op, p with
  | 0x10, [b] => some (.heartbeat tag b)
  | 0x11, [b] => some (.hostRestart tag b)
  | 0x12, [b] => some (.shutdown tag b)
  | 0x13, p => if p.length = 24 then some (.loadSequence tag p) else none
  | 0x14, p => if p.length = 19 then some (.loadLadder tag p) else none
  | 0x20, p => if p.length = 25 then some (.loadZone tag p) else none
  | 0x21, p => if p.length = 8 then some (.loadBudget tag p) else none
  | 0x22, p => if p.length = 8 then some (.loadChannel tag p) else none
  | 0x23, p => if p.length = 7 then some (.loadPoll tag p) else none
  | 0x24, p => if p.length = 17 then some (.loadAction tag p) else none
  | 0x25, [a, b] => some (.lockActions tag a b)
  | 0x26, [] => some (.flushActions tag)
  | 0x28, p => if p.length = 9 then some (.loadWindow tag p) else none
  | 0x30, p => if p.length = 7 then some (.loadKeypad tag p order) else none
  | 0x31, p =>
    if p.length = 9 then some (.loadKeymapEntry tag p)
    else if p.length = 3 then some (.loadKeymapSettings tag p) else none
  | 0x32, [] => some (.clearLayers tag)
  | 0x38, [a, b] => some (.setFlags tag a b)
  | 0x40, [m, a, b] => some (.writeOutputs tag m (word16 [a, b] 0))
  | 0x41, [a, b, c, d, i] => some (.setOutputMask tag (word16 [a, b] 0) (word16 [c, d] 0) i)
  | 0x48, [a, b] => some (.errorClear tag (word16 [a, b] 0))
  | 0x49, [a, b] => some (.setIgnore tag (word16 [a, b] 0))
  | 0x4A, [a, b] => some (.counterSelect tag a b)
  | 0x50, p => statusCommand tag p
  | 0x58, [b] => some (.storeImage tag b)
  | 0x5F, [] => some (.supervisorReset tag)
  | _, _ => none

/-- The command a complete frame whose check passes spells (R161): its op's, or MALFORMED_FRAME. -/
def checkedCommand (order : BitVec 64) (header code : Byte) (address : Addr) (p : List Byte) : Instr :=
  let tag : Tag := Fin.ofNat 16 (header.toNat % 16)
  let malformed : Instr := .malformedFrame tag code address
  if header.toNat / 16 ≠ 0 then malformed
  else if code.toNat = 0x01 then
    match p with
    | [n] => if readLengthFits n then .read tag address n else malformed
    | _ => malformed
  else if code.toNat = 0x02 then
    if writeLengthFits p then .write tag address p else malformed
  else if address ≠ 0 then malformed
  else (supervisorCommand order code.toNat tag p).getD malformed

/-- The command that the bytes of one frame, from its sync byte to its last check byte, spell at the receiver (R160, R161):
a length byte above 48 abandons the frame, bytes that end before the frame does are abandoned by the idle gap, a check that
fails is HOST_CHECK_FRAME. Bytes that do not begin with the sync byte begin no frame. `order` fills the operand of
LOAD_KEYPAD that chooses an order R140 leaves open (log 9). -/
def frameCommand (order : BitVec 64) (frame : List Byte) : Option Instr :=
  match frame with
  | s :: rest =>
    if s ≠ 0xA5#8 then none
    else if rest.length < 5 then some .frameIdleAbandon
    else
      let n := u8 rest 4
      if Config.maxPayload < n then some .frameLengthAbandon
      else if rest.length < 7 + n then some .frameIdleAbandon
      else
        let body := rest.take (5 + n)
        if crc16 body ≠ word16 rest (5 + n) then some .hostCheckFrame
        else some (checkedCommand order (rest.getD 0 0) (rest.getD 1 0) (word16 rest 2) ((rest.drop 5).take n))
  | [] => none

end Sys2Proof
end

