-- ==== Sys2Proof/Machine/Records.lean ====
section
/-! DEFINITION. The records, tables and queues of the twelve blocks, with the ranges of their fields, their factory defaults
(Table 10-10) and their values after power-on. -/

namespace Sys2Proof.Machine

open Sys2Proof

/-- A running timer: the moment it started and the time it takes. It takes its duration when it starts (R4, R94). -/
structure Timer where
  start : Nat
  span : Nat
deriving DecidableEq, Repr

/-- The moment a timer expires. -/
def Timer.deadline (t : Timer) : Nat := t.start + t.span

/-- A table with one entry replaced. -/
def vset {α : Type} {n : Nat} (v : Vector α n) (i : Fin n) (x : α) : Vector α n := v.set i.val x i.isLt

/-- A table with a function applied to every entry. -/
def vmap {α β : Type} {n : Nat} (f : α → β) (v : Vector α n) : Vector β n := ⟨⟨v.toList.map f⟩, by simp⟩

/-- A vector of four from its entries. -/
def quad {α : Type} (f : Zone → α) : Vector α 4 := #v[f 0, f 1, f 2, f 3]

/-! ### Host Power Controller -/

/-- The host states, in the order of Table 0-4, which is their code (R159). -/
inductive HostState where
  | standby | preheat | soak | rails | boot | run | warn | restart | powerCycle | lockout | drain
deriving DecidableEq, Repr

/-- The code of a host state, 0 for STANDBY to 10 for DRAIN (R159). -/
def HostState.code : HostState → Nat
  | .standby => 0 | .preheat => 1 | .soak => 2 | .rails => 3 | .boot => 4 | .run => 5 | .warn => 6
  | .restart => 7 | .powerCycle => 8 | .lockout => 9 | .drain => 10

/-- The states whose receiver delivers frames and in which notices are generated and frames sent (R160, R164, R165). -/
def HostState.delivers : HostState → Bool
  | .boot | .run | .warn | .drain => true
  | .standby | .preheat | .soak | .rails | .restart | .powerCycle | .lockout => false

/-- BOOT, RUN and WARN: the running states of R17, R95, R107. -/
def HostState.running : HostState → Bool
  | .boot | .run | .warn => true
  | .standby | .preheat | .soak | .rails | .restart | .powerCycle | .lockout | .drain => false

/-- RUN and WARN: HOST_RUN (R65), and the states in which KEY notices are generated (R141). -/
def HostState.keysReported : HostState → Bool
  | .run | .warn => true
  | .standby | .preheat | .soak | .rails | .boot | .restart | .powerCycle | .lockout | .drain => false

/-- HOST_POWERED (R65). -/
def HostState.powered : HostState → Bool
  | .rails | .boot | .run | .warn | .restart | .drain => true
  | .standby | .preheat | .soak | .powerCycle | .lockout => false

/-- Entry into one of these is a host restart event (Table 0-4). -/
def HostState.restartEvent : HostState → Bool
  | .restart | .powerCycle | .lockout | .standby => true
  | .preheat | .soak | .rails | .boot | .run | .warn | .drain => false

/-- The keep-warm states, in which the host is off and the zones regulate by the keep-warm rules (R30); the host word is
cleared at entry into them (R173). -/
def HostState.keepWarm : HostState → Bool
  | .standby | .powerCycle | .lockout => true
  | .preheat | .soak | .rails | .boot | .run | .warn | .restart | .drain => false

/-- The sequence record, Table 1-2. Times are in the units of the table. -/
structure SequenceRecord where
  railMask : Vector Bool 3
  pgTimeout : Vector Nat 3
  settle : Vector Nat 3
  soakTime : Nat
  preheatTimeout : Nat
  gateHysteresis : Nat
  startWithoutProbe : Bool
  autoStart : Bool
  drainTimeout : Nat
  offSettle : Nat
deriving DecidableEq, Repr

/-- Every field of a sequence record is in its range (Table 1-2, R3). -/
def SequenceRecord.inRange (r : SequenceRecord) : Bool :=
  (r.railMask[0] || r.railMask[1] || r.railMask[2])
  && ([0, 1, 2] : List Rail).all (fun k => 1 ≤ r.pgTimeout[k] && r.pgTimeout[k] ≤ 2000
    && 1 ≤ r.settle[k] && r.settle[k] ≤ 2000)
  && r.soakTime ≤ 3600 && 60 ≤ r.preheatTimeout && r.preheatTimeout ≤ 7200 && r.gateHysteresis ≤ 100
  && 100 ≤ r.drainTimeout && r.drainTimeout ≤ 10000 && 10 ≤ r.offSettle && r.offSettle ≤ 2000

/-- The factory sequence record (Table 1-2). -/
def SequenceRecord.factory : SequenceRecord where
  railMask := #v[true, true, true]
  pgTimeout := #v[500, 500, 500]
  settle := #v[100, 100, 100]
  soakTime := 0
  preheatTimeout := 600
  gateHysteresis := 20
  startWithoutProbe := false
  autoStart := true
  drainTimeout := 2000
  offSettle := 100

/-- How LOCKOUT is left (Table 6-2). -/
inductive LockoutPolicy where
  | waitService | autoRetry
deriving DecidableEq, Repr

/-- The ladder record, Table 6-2. -/
structure LadderRecord where
  period : Nat
  earlyWindow : Nat
  bootWindow : Nat
  grace : Nat
  resetPulse : Nat
  maxSoft : Nat
  powerOffTime : Nat
  hardLimit : Nat
  hardWindow : Nat
  stableTime : Nat
  policy : LockoutPolicy
  retry : Nat
deriving DecidableEq, Repr

/-- Every field of a ladder record is in its range (Table 6-2, R93). -/
def LadderRecord.inRange (r : LadderRecord) : Bool :=
  100 ≤ r.period && r.period ≤ 60000 && r.earlyWindow ≤ r.period / 2 && 1 ≤ r.bootWindow && r.bootWindow ≤ 900
  && r.grace ≤ 60000 && 10 ≤ r.resetPulse && r.resetPulse ≤ 2000 && r.maxSoft ≤ 3 && 1 ≤ r.powerOffTime
  && r.powerOffTime ≤ 60 && 1 ≤ r.hardLimit && r.hardLimit ≤ 4 && 1 ≤ r.hardWindow && r.hardWindow ≤ 1440
  && 1 ≤ r.stableTime && r.stableTime ≤ 120 && 1 ≤ r.retry && r.retry ≤ 1440

/-- The factory ladder record (Table 6-2). -/
def LadderRecord.factory : LadderRecord where
  period := 5000
  earlyWindow := 0
  bootWindow := 120
  grace := 2000
  resetPulse := 200
  maxSoft := 2
  powerOffTime := 10
  hardLimit := 3
  hardWindow := 60
  stableTime := 10
  policy := .waitService
  retry := 60

/-- How the last RAILS was entered (Table 1-3). -/
inductive StartKind where
  | none | normal | forced
deriving DecidableEq, Repr

/-- The start record, Table 1-3 (R11). -/
structure StartRecord where
  kind : StartKind
  uptime : Nat
  lowest : Option Int
  failedTests : Nat
deriving DecidableEq, Repr

/-- The phase of a rail step (section 1.4). -/
inductive RailPhase where
  | waitPg | settle
deriving DecidableEq, Repr

/-- The rail step in progress in RAILS (R12). -/
structure RailStep where
  rail : Rail
  phase : RailPhase
  timer : Timer
deriving DecidableEq, Repr

/-- What brought a restart (Table 6-4). -/
inductive RestartCause where
  | watchdogExpiry | bootTimeout | railFault | serviceRequest | hostRequest
deriving DecidableEq, Repr

/-- What a restart did (Table 6-4). -/
inductive RestartAction where
  | soft | hard | lockout
deriving DecidableEq, Repr

/-- A restart log record, Table 6-4 (R110). -/
structure LogRecord where
  sequence : Nat
  cause : RestartCause
  action : RestartAction
  before : HostState
  uptime : Nat
  lowest : Option Int
  hardLength : Nat
  softCount : Nat
deriving DecidableEq, Repr

/-- The kind of a HOST_RESTART (R107). -/
inductive RestartKind where
  | soft | hard
deriving DecidableEq, Repr

/-- The last heartbeat record: its moment and the heartbeat period in force then, in ms (R66). -/
structure BeatRecord where
  moment : Nat
  period : Nat
deriving DecidableEq, Repr

/-- The Host Power Controller (chapters 1 and 6). -/
structure Hpc where
  host : HostState
  /-- In DRAIN: rail-off has begun (R20). -/
  railOff : Bool
  enables : Vector Bool 3
  /-- A rail whose power-good has been seen since its enable was asserted (section 1.4). -/
  up : Vector Bool 3
  /-- The power-good input pins. -/
  powerGood : Vector Bool 3
  /-- The host reset line is asserted (R1). -/
  hostReset : Bool
  /-- Keep-warm suppression (R21). -/
  suppress : Bool
  sequence : SequenceRecord
  ladder : LadderRecord
  start : StartRecord
  /-- The rail mask read at entry into RAILS (R4, R12). -/
  maskInUse : Vector Bool 3
  railStep : Option RailStep
  preheatTimer : Option Timer
  soakTimer : Option Timer
  drainTimer : Option Timer
  offSettleTimer : Option Timer
  bootTimer : Option Timer
  heartbeatTimer : Option Timer
  graceTimer : Option Timer
  stableTimer : Option Timer
  pulseTimer : Option Timer
  powerOffTimer : Option Timer
  retryTimer : Option Timer
  softCount : Nat
  /-- The hard-restart list, oldest first, in seconds of uptime (R103). -/
  hardList : List Nat
  /-- The restart log, oldest first (R110). -/
  log : List LogRecord
  logSeq : Nat
  beat : Option BeatRecord
  lastSeq : Option Byte
  pendingRestart : Option RestartKind
deriving DecidableEq, Repr

/-- The HPC after power-on (R2, R111), with its records from the image and the power-good inputs as they are. -/
def Hpc.initial (sequence : SequenceRecord) (ladder : LadderRecord) (powerGood : Vector Bool 3) : Hpc where
  host := .standby
  railOff := false
  enables := #v[false, false, false]
  up := #v[false, false, false]
  powerGood := powerGood
  hostReset := true
  suppress := false
  sequence := sequence
  ladder := ladder
  start := { kind := .none, uptime := 0, lowest := none, failedTests := 0 }
  maskInUse := #v[false, false, false]
  railStep := none
  preheatTimer := none
  soakTimer := none
  drainTimer := none
  offSettleTimer := none
  bootTimer := none
  heartbeatTimer := none
  graceTimer := none
  stableTimer := none
  pulseTimer := none
  powerOffTimer := none
  retryTimer := none
  softCount := 0
  hardList := []
  log := []
  logSeq := 0
  beat := none
  lastSeq := none
  pendingRestart := none

/-! ### Heater Allocator -/

/-- A zone record, Table 2-1. -/
structure ZoneRecord where
  enable : Bool
  channel : Channel
  setpoint : Int
  band : Nat
  coldThreshold : Int
  current : Nat
  priority : Fin 4
  gateMask : Bool
  gateTemp : Int
  minStart : Int
  keepWarm : Bool
  keepWarmSetpoint : Int
  holdPeriods : Nat
  fallback : Nat
  maxOn : Nat
  restPeriods : Nat
  restDuty : Nat
deriving DecidableEq, Repr

/-- Every field of a zone record is in its range (Table 2-1). -/
def ZoneRecord.inRange (r : ZoneRecord) : Bool :=
  (-400 ≤ r.setpoint && r.setpoint ≤ 850) && (10 ≤ r.band && r.band ≤ 500)
  && (-550 ≤ r.coldThreshold && r.coldThreshold ≤ 1250) && (1 ≤ r.current && r.current ≤ 400)
  && (-550 ≤ r.gateTemp && r.gateTemp ≤ 1250) && (-550 ≤ r.minStart && r.minStart ≤ 1250)
  && (-400 ≤ r.keepWarmSetpoint && r.keepWarmSetpoint ≤ 850) && r.holdPeriods ≤ 60 && r.fallback ≤ 64
  && r.maxOn ≤ 255 && (1 ≤ r.restPeriods && r.restPeriods ≤ 60) && r.restDuty ≤ 63

/-- The factory record of a zone (Table 2-1). -/
def ZoneRecord.factory (z : Zone) : ZoneRecord where
  enable := false
  channel := ⟨z.val, by omega⟩
  setpoint := 0
  band := 100
  coldThreshold := -200
  current := 100
  priority := z
  gateMask := false
  gateTemp := 0
  minStart := -200
  keepWarm := false
  keepWarmSetpoint := -100
  holdPeriods := 5
  fallback := 0
  maxOn := 0
  restPeriods := 1
  restDuty := 0

/-- The budget record, Table 2-2. -/
structure BudgetRecord where
  standby : Nat
  preheat : Nat
  inrush : Nat
  run : Nat
deriving DecidableEq, Repr

/-- Every budget is 0 to 1000 (Table 2-2, R26). -/
def BudgetRecord.inRange (b : BudgetRecord) : Bool :=
  b.standby ≤ 1000 && b.preheat ≤ 1000 && b.inrush ≤ 1000 && b.run ≤ 1000

/-- The factory budget record (Table 2-2). -/
def BudgetRecord.factory : BudgetRecord := { standby := 0, preheat := 0, inrush := 0, run := 0 }

/-- The budget in force in a host state (Table 2-3). -/
def BudgetRecord.inForce (b : BudgetRecord) : HostState → Nat
  | .standby | .powerCycle | .lockout => b.standby
  | .preheat | .soak => b.preheat
  | .rails | .boot | .restart => b.inrush
  | .run | .warn | .drain => b.run

/-- The runtime state of a zone that is stored, Table 2-4, and its heater output (R42). -/
structure ZoneState where
  working : Option Int
  request : Nat
  held : Option Nat
  holdCount : Nat
  cutDemand : Nat
  cut : Bool
  grant : Nat
  onStreak : Nat
  restCount : Nat
  output : Bool
deriving DecidableEq, Repr

/-- A zone after power-on (Table 2-4, R28). -/
def ZoneState.initial : ZoneState where
  working := none
  request := 0
  held := none
  holdCount := 0
  cutDemand := 0
  cut := false
  grant := 0
  onStreak := 0
  restCount := 0
  output := false

/-- The Heater Allocator (chapter 2). -/
structure Heat where
  records : Vector ZoneRecord 4
  budget : BudgetRecord
  zones : Vector ZoneState 4
  /-- BUDGET_LIMITED (R36). -/
  limited : Bool
  /-- The moment the current control period started, none before the first (R28). -/
  periodStart : Option Nat
deriving DecidableEq, Repr

/-- The allocator after power-on. -/
def Heat.initial (records : Vector ZoneRecord 4) (budget : BudgetRecord) : Heat where
  records := records
  budget := budget
  zones := quad fun _ => ZoneState.initial
  limited := false
  periodStart := none

/-! ### Probe Scheduler -/

/-- How a channel's value is read (Table 3-1). -/
inductive ChannelKind where
  | temperature | raw
deriving DecidableEq, Repr

/-- A channel's interval class (Table 3-1). -/
inductive IntervalClass where
  | fast | normal | slow
deriving DecidableEq, Repr

/-- A channel table entry, Table 3-1. -/
structure ChannelEntry where
  valid : Bool
  module : Nat
  register : Nat
  kind : ChannelKind
  interval : IntervalClass
  coldDoubling : Bool
  staleLimit : Nat
deriving DecidableEq, Repr

/-- Every field of a channel entry is in its range (Table 3-1). -/
def ChannelEntry.inRange (e : ChannelEntry) : Bool :=
  1 ≤ e.module && e.module ≤ 31 && e.register ≤ 255 && 1 ≤ e.staleLimit && e.staleLimit ≤ 15

/-- The factory channel entry (Table 3-1). -/
def ChannelEntry.factory : ChannelEntry where
  valid := false
  module := 1
  register := 0
  kind := .temperature
  interval := .normal
  coldDoubling := false
  staleLimit := 3

/-- The poll record, Table 3-2, in ms. -/
structure PollRecord where
  fast : Nat
  normal : Nat
  slow : Nat
  fieldTimeout : Nat
deriving DecidableEq, Repr

/-- Every field of a poll record is in its range (Table 3-2). -/
def PollRecord.inRange (r : PollRecord) : Bool :=
  (100 ≤ r.fast && r.fast ≤ 2000) && (500 ≤ r.normal && r.normal ≤ 10000) && (1000 ≤ r.slow && r.slow ≤ 60000)
  && (2 ≤ r.fieldTimeout && r.fieldTimeout ≤ 250)

/-- The factory poll record (Table 3-2). -/
def PollRecord.factory : PollRecord := { fast := 500, normal := 2000, slow := 10000, fieldTimeout := 50 }

/-- The class interval, in ms. -/
def PollRecord.classInterval (r : PollRecord) : IntervalClass → Nat
  | .fast => r.fast
  | .normal => r.normal
  | .slow => r.slow

/-- A channel's poll state (Table 3-3). -/
inductive PollState where
  | off | waiting | queued | inFlight | inFlightDue
deriving DecidableEq, Repr

/-- A channel's last good sample and the moment it was taken: with it the channel is sampled, its value is present, and its
age is the time since that moment (R54, R59). -/
structure Sample where
  value : Int
  moment : Nat
deriving DecidableEq, Repr

/-- The runtime state of a channel, Table 3-6. -/
structure ChannelState where
  poll : PollState
  due : Option Nat
  /-- The moment it joined the poll queue (R49). -/
  joined : Option Nat
  /-- The effective interval stored by the last dispatch, in ms (R48). -/
  interval : Option Nat
  last : Option Sample
  misses : Nat
  missing : Bool
deriving DecidableEq, Repr

/-- A channel before the image load completes (Table 3-6, R60). -/
def ChannelState.initial : ChannelState where
  poll := .off
  due := none
  joined := none
  interval := none
  last := none
  misses := 0
  missing := false

/-- The Probe Scheduler (chapter 3). -/
structure Probe where
  table : Vector ChannelEntry 16
  poll : PollRecord
  chans : Vector ChannelState 16
deriving DecidableEq, Repr

/-- The Probe Scheduler after power-on. -/
def Probe.initial (table : Vector ChannelEntry 16) (poll : PollRecord) : Probe where
  table := table
  poll := poll
  chans := Vector.replicate 16 ChannelState.initial

/-! ### Action Table Unit -/

/-- The direction of a sample rule's trip (Table 5-2). -/
inductive Compare where
  | above | below
deriving DecidableEq, Repr

/-- What a sample rule does when its channel goes missing (Table 5-2). -/
inductive StalePolicy where
  | hold | trip
deriving DecidableEq, Repr

/-- A sample rule's edge action (R81). -/
inductive EdgeAction where
  | none
  | setFlag (f : Fin 4)
  | clearFlag (f : Fin 4)
  | notify
deriving DecidableEq, Repr

/-- A sample rule's level action (R82). -/
inductive LevelAction where
  | none
  | cutZone (z : Zone)
  | forceOn (o : Fin 16)
  | forceOff (o : Fin 16)
deriving DecidableEq, Repr

/-- A sample rule, Table 5-2. Its key is its channel. -/
structure SampleRule where
  channel : Channel
  condition : Fin 32
  compare : Compare
  threshold : Int
  hysteresis : Nat
  stale : StalePolicy
  edge : EdgeAction
  level : LevelAction
  report : Bool
deriving DecidableEq, Repr

/-- A guard rule, Table 5-3. Its key is 16 plus its window. -/
structure GuardRule where
  window : Fin 8
  condition : Fin 32
  coversRead : Bool
  coversWrite : Bool
deriving DecidableEq, Repr

/-- A valid entry of the action table (R74). -/
inductive ActionEntry where
  | sample (r : SampleRule)
  | guard (g : GuardRule)
deriving DecidableEq, Repr

/-- The key of an entry, 0 to 23 (R74). -/
def ActionEntry.key : ActionEntry → Nat
  | .sample r => r.channel.val
  | .guard g => 16 + g.window.val

/-- Every field of an entry is in its range (Tables 5-2 and 5-3, R75). -/
def ActionEntry.inRange : ActionEntry → Bool
  | .sample r => -550 ≤ r.threshold && r.threshold ≤ 65535 && r.hysteresis ≤ 1000
  | .guard g => g.coversRead || g.coversWrite

/-- The runtime state of a sample rule, Table 5-4. -/
structure RuleState where
  tripped : Bool
  trips : Nat
deriving DecidableEq, Repr

/-- A cleared runtime state. -/
def RuleState.clear : RuleState := { tripped := false, trips := 0 }

/-- A place of the table: set times 4 plus way. -/
abbrev Slot := Fin 32

/-- The slot of a set and a way (R74). -/
def slotOf (set : Fin 8) (way : Fin 4) : Slot := ⟨set.val * 4 + way.val, by omega⟩

/-- The set of a slot. -/
def Slot.set (i : Slot) : Fin 8 := ⟨i.val / 4, by omega⟩

/-- The way of a slot. -/
def Slot.way (i : Slot) : Fin 4 := ⟨i.val % 4, by omega⟩

/-- The four slots of a set, way 0 first. -/
def setSlots (set : Fin 8) : List Slot := [slotOf set 0, slotOf set 1, slotOf set 2, slotOf set 3]

/-- The Action Table Unit (chapter 5). -/
structure Acts where
  entries : Vector (Option ActionEntry) 32
  rules : Vector RuleState 32
  lock : Fin 4
  protect : Bool
deriving DecidableEq, Repr

/-- The unit after power-on (R89). -/
def Acts.initial (entries : Vector (Option ActionEntry) 32) (lock : Fin 4) (protect : Bool) : Acts where
  entries := entries
  rules := Vector.replicate 32 RuleState.clear
  lock := lock
  protect := protect

/-! ### Keypad Scanner -/

/-- The keypad record, Table 7-1; `zone` none is NONE. -/
structure KeypadRecord where
  scanPeriod : Nat
  dBase : Nat
  dMax : Nat
  step : Nat
  stuckTime : Nat
  zone : Option Zone
  ghostMasking : Bool
deriving DecidableEq, Repr

/-- Every field of a keypad record is in its range (Table 7-1, R113). -/
def KeypadRecord.inRange (r : KeypadRecord) : Bool :=
  (1 ≤ r.scanPeriod && r.scanPeriod ≤ 16) && (1 ≤ r.dBase && r.dBase ≤ 15) && (r.dBase ≤ r.dMax && r.dMax ≤ 63)
  && (10 ≤ r.step && r.step ≤ 200) && r.stuckTime ≤ 255

/-- The factory keypad record (Table 7-1). -/
def KeypadRecord.factory : KeypadRecord where
  scanPeriod := 4
  dBase := 5
  dMax := 5
  step := 50
  stuckTime := 0
  zone := none
  ghostMasking := true

/-- The state of a position, in the order of Table 7-2, which is its code (R159). -/
inductive PadState where
  | open | closing | closed | masked | opening | stuck
deriving DecidableEq, Repr

/-- The positions of these states form the closed set (Table 7-2). -/
def PadState.inClosedSet : PadState → Bool
  | .closed | .masked | .opening | .stuck => true
  | .open | .closing => false

/-- The state an OPENING position returns to (Table 7-3). -/
inductive StableState where
  | closed | masked
deriving DecidableEq, Repr

/-- The scan state of a position, Table 7-3. -/
structure PadPosition where
  state : PadState
  count : Nat
  previous : Option StableState
  closedSince : Option Nat
deriving DecidableEq, Repr

/-- A position after power-on (Table 7-3). -/
def PadPosition.initial : PadPosition := { state := .open, count := 0, previous := none, closedSince := none }

/-- The Keypad Scanner (chapter 7). -/
structure Pad where
  record : KeypadRecord
  /-- The debounce count N (R115). -/
  count : Nat
  /-- The temperature basis of the last recomputation (Table 7-5). -/
  basis : Option Int
  positions : Vector PadPosition 64
  /-- The next scan start, none before the image load completes (R114). -/
  nextScan : Option Nat
  /-- A scan is in progress (R114). -/
  scanning : Bool
deriving DecidableEq, Repr

/-- The scanner after power-on (R126). -/
def Pad.initial (record : KeypadRecord) : Pad where
  record := record
  count := record.dMax
  basis := none
  positions := Vector.replicate 64 PadPosition.initial
  nextScan := none
  scanning := false

/-! ### Keymap Unit -/

/-- The service functions (Table 8-7). -/
inductive ServiceFunction where
  | wake | ackLockout | requestRestart | requestShutdown
  | setFlag (f : Fin 4)
  | clearFlag (f : Fin 4)
deriving DecidableEq, Repr

/-- A key map entry, Tables 8-1 and 8-2. -/
inductive KeyEntry where
  | none
  | transparent
  | plain (code : Nat)
  | layer (layer : Fin 4) (termination : Fin 32) (count : Nat) (armDelay : Nat)
  | clearOne
  | clearAll
  | service (function : ServiceFunction) (condition : Fin 32)
deriving DecidableEq, Repr

/-- Every field of a key map entry is in its range (Table 8-2, R128). -/
def KeyEntry.inRange : KeyEntry → Bool
  | .plain code => 1 ≤ code && code ≤ 255
  | .layer l _ count delay => 1 ≤ l.val && count ≤ 15 && delay ≤ 5000 && delay % 100 == 0
  | .none | .transparent | .clearOne | .clearAll | .service _ _ => true

/-- The kinds of key map entries, in the order of Table 8-1, which is their code. -/
inductive KeyKind where
  | none | transparent | plain | layer | clearOne | clearAll | service
deriving DecidableEq, Repr

/-- The kind of an entry. -/
def KeyEntry.kind : KeyEntry → KeyKind
  | .none => .none
  | .transparent => .transparent
  | .plain _ => .plain
  | .layer _ _ _ _ => .layer
  | .clearOne => .clearOne
  | .clearAll => .clearAll
  | .service _ _ => .service

/-- The place of an entry: layer times 64 plus position. -/
abbrev KeySlot := Fin 256

/-- The place of a layer's entry for a position (R128). -/
def keySlot (layer : Fin 4) (p : Position) : KeySlot := ⟨layer.val * 64 + p.val, by omega⟩

/-- A layer stack entry, Table 8-4. `idle` is in ms. -/
structure StackEntry where
  layer : Fin 4
  position : Position
  termination : Fin 32
  counted : Bool
  count : Nat
  idle : Nat
  held : Bool
deriving DecidableEq, Repr

/-- A running arm delay with the fields captured at the press (Table 8-5). -/
structure Arm where
  timer : Timer
  layer : Fin 4
  termination : Fin 32
  count : Nat
deriving DecidableEq, Repr

/-- The KU's state of a position, Table 8-5. -/
structure KeyPosition where
  resolution : Option (KeyKind × Fin 4)
  code : Option Nat
  reported : Bool
  arm : Option Arm
deriving DecidableEq, Repr

/-- A position after power-on (Table 8-5). -/
def KeyPosition.initial : KeyPosition := { resolution := none, code := none, reported := false, arm := none }

/-- The Keymap Unit (chapter 8). -/
structure Keymap where
  entries : Vector KeyEntry 256
  /-- The key map settings' layer timeout, in ms (Table 8-3). -/
  layerTimeout : Nat
  /-- The layer stack, TOP FIRST. -/
  stack : List StackEntry
  positions : Vector KeyPosition 64
  /-- The next layer tick, none before the image load completes (R137). -/
  nextTick : Option Nat
deriving DecidableEq, Repr

/-- The Keymap Unit after power-on (R143). -/
def Keymap.initial (entries : Vector KeyEntry 256) (layerTimeout : Nat) : Keymap where
  entries := entries
  layerTimeout := layerTimeout
  stack := []
  positions := Vector.replicate 64 KeyPosition.initial
  nextTick := none

/-- The current layer: the top entry's layer, or 0 when the stack is empty (R130). It is also the layer indicator
source (R142). -/
def Keymap.currentLayer (k : Keymap) : Fin 4 :=
  match k.stack with
  | top :: _ => top.layer
  | [] => 0

/-! ### Relay Unit -/

/-- The relayed operations a window admits (Table 9-1). -/
inductive Access where
  | readOnly | writeOnly | readWrite
deriving DecidableEq, Repr

/-- A window table entry, Table 9-1. -/
structure WindowEntry where
  valid : Bool
  base : Addr
  mask : Addr
  module : Nat
  regBase : Nat
  access : Access
deriving DecidableEq, Repr

/-- Every field of a window entry is in its range (Table 9-1). -/
def WindowEntry.inRange (w : WindowEntry) : Bool := 1 ≤ w.module && w.module ≤ 31 && w.regBase ≤ 255

/-- The factory window entry (Table 9-1). -/
def WindowEntry.factory : WindowEntry where
  valid := false
  base := 0
  mask := 0
  module := 1
  regBase := 0
  access := .readWrite

/-- The op of a relayed command. -/
inductive RelayOp where
  | read | write
deriving DecidableEq, Repr

/-- The op's code in a frame and in a C-port request (Tables 10-3 and 10-6). -/
def RelayOp.code : RelayOp → Nat
  | .read => 0x01
  | .write => 0x02

/-- A relay queue entry, Table 9-3. Its state is IN_FLIGHT when it is the oldest and the link is RELAY. -/
structure RelayEntry where
  tag : Tag
  op : RelayOp
  address : Addr
  window : Fin 8
  module : Nat
  register : Nat
  length : Nat
  data : List Byte
deriving DecidableEq, Repr

/-- The two parties of the link arbiter (R153). -/
inductive Party where
  | relay | poll
deriving DecidableEq, Repr

/-- What the link carries: a transaction for the relay, one for the Probe Scheduler (with whether its poll still belongs to
the channel, R53), or a relayed one the relay has abandoned (R149). -/
inductive LinkUse where
  | relay
  | poll (channel : Channel) (owned : Bool)
  | orphan
deriving DecidableEq, Repr

/-- The request of a C-port transaction, Table 10-6. -/
structure Request where
  module : Nat
  op : RelayOp
  sequence : Byte
  register : Nat
  length : Nat
  data : List Byte
deriving DecidableEq, Repr

/-- A transaction in flight: its request, and the field timeout once the request has been sent (R149). -/
structure Link where
  use : LinkUse
  request : Request
  timeout : Option Timer
deriving DecidableEq, Repr

/-- The Relay Unit (chapter 9). -/
structure Relay where
  windows : Vector WindowEntry 8
  /-- The commands held, oldest first (R148). -/
  queue : List RelayEntry
  /-- The transaction in flight; none is IDLE. -/
  link : Option Link
  lastServed : Party
  /-- The transaction sequence of the latest request (R149). -/
  seq : Byte
  /-- The bytes of a C-port reply in progress (R149). -/
  partialReply : List Byte
deriving DecidableEq, Repr

/-- The Relay Unit after power-on (R157). -/
def Relay.initial (windows : Vector WindowEntry 8) : Relay where
  windows := windows
  queue := []
  link := none
  lastServed := .poll
  seq := 0
  partialReply := []

/-! ### Error and Counter Unit -/

/-- The error classes, in the order of Table 11-3, which is their bit. -/
inductive ErrorClass where
  | noTarget | denied | guarded | queueFull | tagBusy | fieldTimeout | fieldCheck | fieldRefused | hostCheck
  | badRequest | replyOverrun | noticeLost | probeMissing | railFault | layerOverflow | imageFault
deriving DecidableEq, Repr

/-- The bit of an error class (Table 11-3). -/
def ErrorClass.bit : ErrorClass → Fin 16
  | .noTarget => 0 | .denied => 1 | .guarded => 2 | .queueFull => 3 | .tagBusy => 4 | .fieldTimeout => 5
  | .fieldCheck => 6 | .fieldRefused => 7 | .hostCheck => 8 | .badRequest => 9 | .replyOverrun => 10
  | .noticeLost => 11 | .probeMissing => 12 | .railFault => 13 | .layerOverflow => 14 | .imageFault => 15

/-- The fields a recording block supplies (Table 11-4). -/
structure ErrorFields where
  tag : Option Tag := none
  address : Option Addr := none
  opCode : Option Byte := none
  index : Option Nat := none
deriving DecidableEq, Repr

/-- The frozen detail, Table 11-4. `time` is in ms. -/
structure ErrorDetail where
  cls : ErrorClass
  time : Nat
  fields : ErrorFields
deriving DecidableEq, Repr

/-- The error record (section 11.3). -/
structure Errors where
  flags : Word
  ignore : Word
  detail : Option ErrorDetail
  multiple : Bool
deriving DecidableEq, Repr

/-- The error record after power-on, before the image check's result is recorded (R177). -/
def Errors.initial (ignore : Word) : Errors := { flags := 0, ignore := ignore, detail := none, multiple := false }

/-- The counter events, in the order of Table 11-5, which is their code. -/
inductive CounterEvent where
  | relayDone | relayRefused | polls | pollMisses | keyNotices | keyDiscarded | noticesLost | heartbeats
  | earlyHeartbeats | limitedPeriods | lateReply
deriving DecidableEq, Repr

/-- The code of a counter event (Table 11-5). -/
def CounterEvent.code : CounterEvent → Nat
  | .relayDone => 0 | .relayRefused => 1 | .polls => 2 | .pollMisses => 3 | .keyNotices => 4 | .keyDiscarded => 5
  | .noticesLost => 6 | .heartbeats => 7 | .earlyHeartbeats => 8 | .limitedPeriods => 9 | .lateReply => 10

/-- An event counter (R178). -/
structure Counter where
  select : CounterEvent
  count : Nat
deriving DecidableEq, Repr

/-- The two counters after power-on and SUPERVISOR_RESET (R178). -/
def Counter.initial : Vector Counter 2 := #v[{ select := .relayDone, count := 0 }, { select := .polls, count := 0 }]

/-! ### Output Unit -/

/-- The Output Unit, Table 11-2. -/
structure Outputs where
  hostWord : Word
  planeMask : Word
  foreground : Word
  indicator : Bool
  forceOn : Vector Nat 16
  forceOff : Vector Nat 16
deriving DecidableEq, Repr

/-- The Output Unit after power-on (R173). -/
def Outputs.initial (planeMask foreground : Word) (indicator : Bool) : Outputs where
  hostWord := 0
  planeMask := planeMask
  foreground := foreground
  indicator := indicator
  forceOn := Vector.replicate 16 0
  forceOff := Vector.replicate 16 0

/-! ### Frame Engine and Image Store -/

/-- The status codes (Table 10-4). -/
inductive Status where
  | done | noTarget | denied | guarded | queueFull | tagBusy | fieldTimeout | fieldCheck | fieldRefused
  | badRequest | state | locked | tableFull | early | abandoned
deriving DecidableEq, Repr

/-- The code of a status (Table 10-4). -/
def Status.code : Status → Nat
  | .done => 0x00 | .noTarget => 0x01 | .denied => 0x02 | .guarded => 0x03 | .queueFull => 0x04 | .tagBusy => 0x05
  | .fieldTimeout => 0x06 | .fieldCheck => 0x07 | .fieldRefused => 0x08 | .badRequest => 0x09 | .state => 0x0A
  | .locked => 0x0B | .tableFull => 0x0C | .early => 0x0D | .abandoned => 0x0E

/-- A reply placed in the reply queue. `restart` marks the DONE reply of a HOST_RESTART (R108). -/
structure Reply where
  tag : Tag
  address : Addr
  status : Status
  payload : List Byte
  restart : Bool := false
deriving DecidableEq, Repr

/-- Which way a key went (Table 8-6). -/
inductive Direction where
  | press | release
deriving DecidableEq, Repr

/-- Why a rule tripped (Table 5-6). -/
inductive TripCause where
  | sample | stale
deriving DecidableEq, Repr

/-- A notice with its contents (Table 10-5). -/
inductive Notice where
  /-- Table 8-6. -/
  | key (position : Position) (code : Nat) (direction : Direction) (layer : Fin 4) (forced : Bool)
  /-- Table 5-8. -/
  | sample (slot : Slot) (channel : Channel) (value : Int) (tripped : Bool)
  /-- Table 5-6. -/
  | rule (slot : Slot) (channel : Channel) (cause : TripCause) (value : Option Int) (trips : Nat)
  /-- Table 6-3: uptime, since heartbeat, grace, soft-attempt count, max soft. -/
  | watchdogWarn (uptime since grace softCount maxSoft : Nat)
  /-- R175: the frozen detail and the class flags. -/
  | error (detail : ErrorDetail) (flags : Word)
deriving DecidableEq, Repr

/-- The code of a notice's kind (Table 10-5). -/
def Notice.code : Notice → Nat
  | .key _ _ _ _ _ => 0x01
  | .sample _ _ _ _ => 0x02
  | .rule _ _ _ _ _ => 0x03
  | .watchdogWarn _ _ _ _ _ => 0x04
  | .error _ _ => 0x05

/-- The P-port transmitter: idle, sending the oldest reply, or sending the oldest notice (R165). -/
inductive Transmitter where
  | idle | reply | notice
deriving DecidableEq, Repr

/-- The P-port speeds (R169). -/
inductive Speed where
  | low | high
deriving DecidableEq, Repr

/-- A speed in bit/s. -/
def Speed.bitRate : Speed → Nat
  | .low => 115200
  | .high => 460800

/-- The Frame Engine (chapter 10). Its claimed and unfilled entries are those of the relay queue and of a store in
progress. -/
structure Panel where
  /-- The receive buffer: the bytes of a frame partly received (R160). -/
  partialFrame : List Byte
  /-- The placed replies, oldest first. -/
  replies : List Reply
  /-- The notices, oldest first. -/
  notices : List Notice
  tx : Transmitter
  /-- The speed in force. -/
  speed : Speed
deriving DecidableEq, Repr

/-- The Frame Engine after power-on (R170). -/
def Panel.initial (speed : Speed) : Panel := { partialFrame := [], replies := [], notices := [], tx := .idle, speed := speed }

/-- What the stored image holds, Table 10-10. -/
structure Image where
  windows : Vector WindowEntry 8
  table : Vector ChannelEntry 16
  poll : PollRecord
  actions : Vector (Option ActionEntry) 32
  lock : Fin 4
  protect : Bool
  zones : Vector ZoneRecord 4
  budget : BudgetRecord
  sequence : SequenceRecord
  ladder : LadderRecord
  keypad : KeypadRecord
  keymap : Vector KeyEntry 256
  layerTimeout : Nat
  planeMask : Word
  foreground : Word
  indicator : Bool
  ignore : Word
  speed : Speed
deriving DecidableEq, Repr

/-- The factory defaults, Table 10-10. -/
def Image.factory : Image where
  windows := Vector.replicate 8 WindowEntry.factory
  table := Vector.replicate 16 ChannelEntry.factory
  poll := PollRecord.factory
  actions := Vector.replicate 32 none
  lock := 0
  protect := false
  zones := quad ZoneRecord.factory
  budget := BudgetRecord.factory
  sequence := SequenceRecord.factory
  ladder := LadderRecord.factory
  keypad := KeypadRecord.factory
  keymap := Vector.replicate 256 KeyEntry.none
  layerTimeout := 0
  planeMask := 0xFFFF
  foreground := 0
  indicator := false
  ignore := 0
  speed := .low

/-- The non-volatile store: never written, a store that lost power before its completion, or an image (R170). -/
inductive Store where
  | empty
  | damaged
  | image (i : Image)
deriving DecidableEq, Repr

/-- The image state (R169). In STORING: the contents captured at the take, the tag of the claimed entry while it is held,
and the moment by which the store completes. -/
inductive ImageState where
  | valid
  | factory
  | storing (captured : Image) (claim : Option Tag) (bound : Nat)
deriving DecidableEq, Repr

/-- The image state is STORING. -/
def ImageState.isStoring : ImageState → Bool
  | .storing _ _ _ => true
  | .valid | .factory => false

/-- The tables the blocks take at power-on from a store (R170). -/
def Store.tables : Store → Image
  | .image i => i
  | .empty | .damaged => Image.factory

/-- The image state after the load from a store (R170). -/
def Store.loadedState : Store → ImageState
  | .image _ => .valid
  | .empty | .damaged => .factory

/-- The supply and the image load. -/
inductive Power where
  | off | loading | running
deriving DecidableEq, Repr

end Sys2Proof.Machine
end

