-- ==== Sys2Proof/Machine/State.lean ====
section
/-! DEFINITION. The state of the part, its faults and refusals, and the state after power-on. -/

namespace Sys2Proof.Machine

open Sys2Proof

/-- The machine stops with no fault: the manual names no behaviour that stops the part. Raised by nothing; safe. -/
inductive Fault
deriving DecidableEq, Repr

/-- A command without a meaning. -/
inductive Refusal where
  /-- Raised by `exec` alone, for a row that has no meaning yet; safe. -/
  | notModelled (mnemonic : String)
deriving DecidableEq, Repr

/-- The whole state of the part, block by block (Table 0-2), and the queue of waiting commands. -/
structure State where
  /-- The timebase since power-on, in units of 1/8 ms (log 1). -/
  now : Nat
  power : Power
  hpc : Hpc
  heat : Heat
  probe : Probe
  /-- The user flags, FLAG_A in bit 0 (R71). -/
  flags : BitVec 4
  acts : Acts
  pad : Pad
  keymap : Keymap
  relay : Relay
  panel : Panel
  /-- The non-volatile store. -/
  store : Store
  imageState : ImageState
  outs : Outputs
  errs : Errors
  counters : Vector Counter 2
  /-- The MODEL's own: how many free orders the timebase has taken (log 2). -/
  choice : Nat
  /-- The MODEL's own: the waiting commands, first in first out (log 27). -/
  pending : List Instr
deriving DecidableEq, Repr

/-- The part with its blocks as power-on leaves them, their tables from `image`: the values after power-on of every
chapter (R2, R28, R60, R71, R89, R111, R126, R143, R157, R170, R173, R177, R178). -/
def State.fresh (power : Power) (image : Image) (store : Store) (imageState : ImageState) (powerGood : Vector Bool 3)
    (choice : Nat) (pending : List Instr) : State where
  now := 0
  power := power
  hpc := Hpc.initial image.sequence image.ladder powerGood
  heat := Heat.initial image.zones image.budget
  probe := Probe.initial image.table image.poll
  flags := 0
  acts := Acts.initial image.actions image.lock image.protect
  pad := Pad.initial image.keypad
  keymap := Keymap.initial image.keymap image.layerTimeout
  relay := Relay.initial image.windows
  panel := Panel.initial image.speed
  store := store
  imageState := imageState
  outs := Outputs.initial image.planeMask image.foreground image.indicator
  errs := Errors.initial image.ignore
  counters := Counter.initial
  choice := choice
  pending := pending

/-- The part right after reset: after power-on with a store that has never been written, its image load not yet complete,
the power-good inputs low, nothing waiting (log 4, log 6; the inputs' level is DESIGN CHOICE, unsafe). -/
def State.reset : State :=
  State.fresh .loading Image.factory .empty .factory #v[false, false, false] 0 []

end Sys2Proof.Machine
end

