-- ==== Sys2Proof/Machine/Ops.lean ====
section
/-! DEFINITION. The operations every block shares: the timebase, the event counters, the error record, notices, replies, the
transmitter, and the take of a P-port frame. -/

namespace Sys2Proof.Machine

open Sys2Proof

/-- The outcome of a command's step. -/
abbrev Result := Host.Outcome State Fault Refusal

/-! ### Timebase -/

/-- Uptime: whole seconds since power-on, 32-bit, saturating (Table 0-3, section 0.5.2; log 7). -/
def uptime (s : State) : Nat := min (s.now / 8000) 4294967295

/-- An event that happens at moment `t` is taken: the timebase has reached `t` by then (log 3). -/
def reach (t : Nat) (s : State) : State := { s with now := max s.now t }

/-- A timer that starts now with a duration in units of the timebase. -/
def startTimer (s : State) (span : Nat) : Timer := { start := s.now, span := span }

/-- The remaining time of a timer in ms, 0 once it has been reached. -/
def remainingMs (s : State) (t : Timer) : Nat := (t.deadline - s.now) / 8

/-! ### The relay's report and rail-off (R18, R20) -/

/-- Rail-off begins: the drain timer is discarded, the host reset asserted, the off settle started (R18, R20). -/
def beginRailOff (s : State) : State :=
  { s with
    hpc.drainTimer := none
    hpc.railOff := true
    hpc.hostReset := true
    hpc.offSettleTimer := some (startTimer s (ms s.hpc.sequence.offSettle)) }

/-- The relay's report that it is empty stands for the HPC to take: DRAIN's wait phase, and nothing held (R18, R154 to R156). -/
def relayReportsEmpty (s : State) : Bool := s.hpc.host = .drain && !s.hpc.railOff && s.relay.queue.isEmpty

/-- The HPC takes the relay's report if it stands: rail-off begins (R18). -/
def reportRelayEmpty (s : State) : State := if relayReportsEmpty s then beginRailOff s else s

/-- A command is taken: a report of the relay's that stands, which is so only after a SUPERVISOR_RESET in DRAIN's wait phase, is
taken by the HPC first (R18, R155; log 33). -/
def upon (s : State) (event : State → Result) : Result := event (reportRelayEmpty s)

/-! ### Event counters (R178) -/

/-- An event of kind `e` on one counter: the count is incremented, wrapping at 32 bits, when the select is `e`. -/
def Counter.tick (e : CounterEvent) (c : Counter) : Counter :=
  if c.select = e then { c with count := (c.count + 1) % 4294967296 } else c

/-- A block reports an event: every counter whose select is that event is incremented (R178). -/
def countEvent (e : CounterEvent) (s : State) : State :=
  { s with counters := #v[s.counters[0].tick e, s.counters[1].tick e] }

/-! ### The transmitter (R165) -/

/-- The transmitter, when idle in a state that delivers, begins the oldest reply if there is one and otherwise the oldest
notice (R165). It is asked at once when a reply or notice is placed, and when a frame is completed. -/
def startTransmit (s : State) : State :=
  if s.hpc.host.delivers && s.panel.tx = .idle then
    if s.panel.replies ≠ [] then { s with panel.tx := .reply }
    else if s.panel.notices ≠ [] then { s with panel.tx := .notice }
    else s
  else s

/-! ### Error record and notices (R164, R174, R175) -/

/-- A word with one bit set. -/
def oneBit (b : Fin 16) : Word := 1#16 <<< b.val

/-- The class is ignored (R174). -/
def Errors.ignores (e : Errors) (c : ErrorClass) : Bool := e.ignore.getLsbD c.bit.val

/-- Recording class `c` would freeze a detail: it is not ignored and no detail is frozen (R174). -/
def Errors.freezes (e : Errors) (c : ErrorClass) : Bool := !e.ignores c && e.detail.isNone

/-- The error record after a recording of class `c` at `time` ms (R174). -/
def Errors.latch (c : ErrorClass) (time : Nat) (f : ErrorFields) (e : Errors) : Errors :=
  if e.ignores c then e
  else
    match e.detail with
    | none => { e with flags := e.flags ||| oneBit c.bit, detail := some { cls := c, time := time, fields := f } }
    | some _ => { e with flags := e.flags ||| oneBit c.bit, multiple := true }

/-- The time since power-on in ms, wrapping at 32 bits (Table 11-4). -/
def errorTime (s : State) : Nat := (s.now / 8) % 4294967296

/-- The error record takes a recording, without the ERROR notice of a freeze. -/
def latchError (c : ErrorClass) (f : ErrorFields) (s : State) : State :=
  { s with errs := s.errs.latch c (errorTime s) f }

/-- One notice dropped for a full queue: NOTICES_LOST is counted and NOTICE_LOST recorded (R164). -/
def dropOnce (code : Nat) (s : State) : State :=
  latchError .noticeLost { index := some code } (countEvent .noticesLost s)

/-- A generated notice finds the queue full. If the recording freezes the detail, the ERROR notice of that freeze is dropped
from the same full queue, and its own recording only sets MULTIPLE (R164, R175). -/
def dropNotice (code : Nat) (s : State) : State :=
  if s.errs.freezes .noticeLost then dropOnce 0x05 (dropOnce code s) else dropOnce code s

/-- A notice is handed to the Frame Engine (R164): generated only while the host state delivers, queued if there is room; an
idle transmitter begins a frame at once (R165). -/
def handNotice (n : Notice) (s : State) : State :=
  if s.hpc.host.delivers then
    if s.panel.notices.length < Config.noticeEntries then
      startTransmit { s with panel.notices := s.panel.notices ++ [n] }
    else dropNotice n.code s
  else s

/-- A block records an error (R174); a freeze hands the ERROR notice of R175. -/
def recordError (c : ErrorClass) (f : ErrorFields) (s : State) : State :=
  if s.errs.freezes c then
    let s' := latchError c f s
    handNotice (.error { cls := c, time := errorTime s, fields := f } s'.errs.flags) s'
  else latchError c f s

/-! ### Replies (R162 to R166) -/

/-- The entry a store in progress still holds (R163, R169). -/
def storeClaim (s : State) : Option Tag :=
  match s.imageState with
  | .storing _ claim _ => claim
  | .valid | .factory => none

/-- Claimed entries not yet filled: one for each command the relay holds, one for a store whose claim is held (R162). -/
def claimedUnfilled (s : State) : Nat := s.relay.queue.length + (if (storeClaim s).isSome then 1 else 0)

/-- Occupied entries of the reply queue, filled or not (R162). -/
def occupied (s : State) : Nat := s.panel.replies.length + claimedUnfilled s

/-- A reply is placed behind those already placed (R162); an idle transmitter begins a frame at once (R165). -/
def placeReply (r : Reply) (s : State) : State := startTransmit { s with panel.replies := s.panel.replies ++ [r] }

/-- A command's step ends: whatever the command did, a transmitter that is idle takes up what waits (R165). -/
def finish (s : State) : Result := .next (startTransmit s)

/-- The image state with its claimed entry released. -/
def ImageState.unclaim : ImageState → ImageState
  | .storing captured _ bound => .storing captured none bound
  | .valid => .valid
  | .factory => .factory

/-- Both queues are emptied, every claimed entry of the Frame Engine is released, a frame in transmission is cut off
(R166). -/
def flushQueues (s : State) : State :=
  { s with
    panel.replies := []
    panel.notices := []
    panel.tx := .idle
    imageState := s.imageState.unclaim }

/-! ### Taking a frame (R160 to R163) -/

/-- A frame that passed its check is taken. The receiver discards it outside BOOT, RUN, WARN and DRAIN (R160); with no
unoccupied entry it is discarded and REPLY_OVERRUN recorded (R162); otherwise it claims an entry and is handed on. -/
def takeFrame (tag : Tag) (handOn : State → State) (s : State) : State :=
  if s.hpc.host.delivers then
    if occupied s < Config.replyEntries then handOn s
    else recordError .replyOverrun { tag := some tag } s
  else s

/-- A malformed frame is answered BAD_REQUEST with its tag and address, and recorded with its tag and op code (R161), the
reply placed before the error is recorded (log 10). -/
def answerMalformed (tag : Tag) (op : Byte) (address : Addr) (s : State) : State :=
  recordError .badRequest { tag := some tag, opCode := some op }
    (placeReply { tag := tag, address := address, status := .badRequest, payload := [] } s)

/-- A malformed frame is taken (R161, R162). -/
def takeMalformed (tag : Tag) (op : Byte) (address : Addr) (s : State) : State :=
  takeFrame tag (answerMalformed tag op address) s

/-- What an owning block answers to a supervisor operation: a status and the reply's payload (R163). -/
structure Answer where
  status : Status
  payload : List Byte := []
  restart : Bool := false
deriving DecidableEq, Repr

/-- DONE without a payload. -/
def Answer.done : Answer := { status := .done }

/-- A refusal with a status. -/
def Answer.refuse (st : Status) : Answer := { status := st }

/-- The owner's answer is placed in the claimed entry (R163), and then BAD_REQUEST is recorded (R161; log 10). When the
operation itself took the host out of the delivering states, its entry went with the emptied queues (R166; log 23). -/
def answer (tag : Tag) (op : Byte) (a : Answer) (s : State) : State :=
  let s' :=
    if s.hpc.host.delivers then
      placeReply { tag := tag, address := 0, status := a.status, payload := a.payload, restart := a.restart } s
    else s
  if a.status = .badRequest then recordError .badRequest { tag := some tag, opCode := some op } s' else s'

/-- A supervisor operation: its frame is taken, its owner carries it out or refuses it, its reply is placed (R163). The reply
comes after everything the owner did, the notices it handed among it. For a LOAD_CHANNEL that begins a missing episode this
order is the model's choice, since R45 names the reply before the effects and R163 after the carrying out; an idle transmitter
shows it (R165; log 38, DESIGN CHOICE). -/
def supervisorOp (tag : Tag) (op : Byte) (owner : State → State × Answer) (s : State) : Result :=
  finish (takeFrame tag (fun s => let r := owner s; answer tag op r.2 r.1) s)

/-- A supervisor operation whose payload is a record: a payload of another length makes the frame malformed (R161). -/
def recordOp (tag : Tag) (op : Byte) (fits : Bool) (owner : State → State × Answer) (s : State) : Result :=
  if fits then supervisorOp tag op owner s else finish (takeMalformed tag op 0 s)

/-- A LOAD operation: refused STATE while the Image Store is storing, then BAD_REQUEST when its record does not decode or
is out of range, and otherwise carried out (R169 and the loading rule of each chapter). -/
def loadOp {α : Type} (decoded : Option α) (load : α → State → State × Answer) (s : State) : State × Answer :=
  if s.imageState.isStoring then (s, .refuse .state)
  else
    match decoded with
    | some r => load r s
    | none => (s, .refuse .badRequest)

end Sys2Proof.Machine
end

