-- ==== Sys2Proof/Machine/Flags.lean ====
section
/-! DEFINITION. The Condition Unit (chapter 4): the zone readings the conditions rest on, the 32 condition codes, the user
flags. -/

namespace Sys2Proof.Machine

open Sys2Proof

/-- A zone's reading state (R27). -/
inductive ReadingState where
  | current | held | none
deriving DecidableEq, Repr

/-- The reading state of a channel's zone and the temperature in use (R27). -/
def channelReading (e : ChannelEntry) (c : ChannelState) : ReadingState × Option Int :=
  if e.valid && e.kind = .temperature then
    match c.last with
    | some v => (if c.missing then .held else .current, some v.value)
    | none => (.none, none)
  else (.none, none)

/-- A zone's reading state and temperature in use (R27). -/
def zoneReading (s : State) (z : Zone) : ReadingState × Option Int :=
  let ch := s.heat.records[z].channel
  channelReading s.probe.table[ch] s.probe.chans[ch]

/-- A zone's gate reading: its temperature in use when the reading state is CURRENT (R5, R67). -/
def gateReading (s : State) (z : Zone) : Option Int :=
  match zoneReading s z with
  | (.current, t) => t
  | _ => none

/-- The zones, in order. -/
def allZones : List Zone := [0, 1, 2, 3]

/-- The gated zones: those whose gate mask is 1 (section 1.3). -/
def gatedZones (s : State) : List Zone := allZones.filter fun z => s.heat.records[z].gateMask

/-- ANY_COLD (R67). -/
def anyCold (s : State) : Bool :=
  allZones.any fun z =>
    s.heat.records[z].enable &&
      match gateReading s z with
      | some t => decide (t < s.heat.records[z].coldThreshold)
      | none => false

/-- ALL_WARM (R5, R67). -/
def allWarm (s : State) : Bool :=
  (gatedZones s).all fun z =>
    match gateReading s z with
    | some t => decide (s.heat.records[z].gateTemp ≤ t)
    | none => false

/-- HOST_ALIVE (R66). -/
def hostAlive (s : State) : Bool :=
  match s.hpc.beat with
  | some b => decide (s.now - b.moment < ms b.period)
  | none => false

/-- HOLD_KEY (R69). -/
def holdKey (s : State) : Bool :=
  match s.keymap.stack with
  | top :: _ => top.held
  | [] => false

/-- COUNT_DONE (R69). -/
def countDone (s : State) : Bool :=
  match s.keymap.stack with
  | top :: _ => top.counted && top.count = 0
  | [] => false

/-- LAYER_IDLE (R69). -/
def layerIdle (s : State) : Bool :=
  match s.keymap.stack with
  | top :: _ => s.keymap.layerTimeout ≠ 0 && s.keymap.layerTimeout ≤ top.idle
  | [] => false

/-- ANY_CUT (R68). -/
def anyCut (s : State) : Bool := allZones.any fun z => s.heat.zones[z].cut

/-- ERROR_PENDING (R70). -/
def errorPending (s : State) : Bool := s.errs.flags ≠ 0

/-- The sixteen base conditions, codes 0 to 15 (Table 4-1); code 15 is ALWAYS. -/
def baseCondition (s : State) (n : Fin 16) : Bool :=
  match n.val with
  | 0 => s.hpc.host.powered
  | 1 => s.hpc.host.keysReported
  | 2 => hostAlive s
  | 3 => anyCold s
  | 4 => allWarm s
  | 5 => s.heat.limited
  | 6 => anyCut s
  | 7 => holdKey s
  | 8 => countDone s
  | 9 => layerIdle s
  | 10 => s.flags.getLsbD 0
  | 11 => s.flags.getLsbD 1
  | 12 => s.flags.getLsbD 2
  | 13 => s.flags.getLsbD 3
  | 14 => errorPending s
  | _ => true

/-- A condition code: code 16 + n is the complement of base condition n (R63). -/
def condition (s : State) (c : Fin 32) : Bool :=
  if h : c.val < 16 then baseCondition s ⟨c.val, h⟩
  else !baseCondition s ⟨c.val - 16, by omega⟩

/-- One user flag as a mask. -/
def flagBit (f : Fin 4) : BitVec 4 := 1#4 <<< f.val

/-- User flag f is set (R71). -/
def setUserFlag (f : Fin 4) (s : State) : State := { s with flags := s.flags ||| flagBit f }

/-- User flag f is cleared (R71). -/
def clearUserFlag (f : Fin 4) (s : State) : State := { s with flags := s.flags &&& ~~~flagBit f }

/-- The user flags after a write by the two masks of SET_FLAGS: a set bit wins over a clear bit (R72). -/
def maskedFlags (flags set clear : BitVec 4) : BitVec 4 := set ||| (flags &&& ~~~clear)

/-- SET_FLAGS at its owner (R72). -/
def applySetFlags (set clear : Byte) (s : State) : State × Answer :=
  if 16 ≤ set.toNat || 16 ≤ clear.toNat then (s, .refuse .badRequest)
  else
    let f := maskedFlags s.flags (set.setWidth 4) (clear.setWidth 4)
    ({ s with flags := f }, { status := .done, payload := byte1 f.toNat })

/-- SET_FLAGS (R72). -/
def execSetFlags (tag : Tag) (set clear : Byte) (s : State) : Result := upon s fun s =>
  supervisorOp tag 0x38 (applySetFlags set clear) s

end Sys2Proof.Machine
end

