-- ==== Sys2Proof/Machine/Heater.lean ====
section
/-! DEFINITION. The Heater Allocator's computations (chapter 2): requests, cuts, allocation, rest limit, the immediate
recomputation and the drive windows. -/

namespace Sys2Proof.Machine

open Sys2Proof

/-- The budget in force: the one the present host state selects (Table 2-3, R25). -/
def budgetInForce (s : State) : Nat := s.heat.budget.inForce s.hpc.host

/-! ### Drive windows (R40 to R42) -/

/-- The time since the present control period started, in units; at the end of a period whose successor has not been taken
yet it stays at the last unit (log 26). 0 before the first period. -/
def periodTime (s : State) : Nat :=
  match s.heat.periodStart with
  | some p => min (s.now - p) (Config.controlPeriod - 1)
  | none => 0

/-- The start of a zone's window after the period start: zone times 250 ms (Table 2-6). -/
def windowStart (z : Zone) : Nat := ms (z.val * 250)

/-- The length of a window: the granted duty in steps of 15.625 ms, which is 125 units (R40). -/
def windowLength (grant : Nat) : Nat := 125 * grant

/-- At `t` units into the period a zone with this grant is in its window: the window begins at `windowStart` and what
reaches past the end of the period lies at its beginning (R40). -/
def inWindow (z : Zone) (grant t : Nat) : Bool :=
  (t + Config.controlPeriod - windowStart z) % Config.controlPeriod < windowLength grant

/-- The moments of a period, in units after its start, at which the zone's window begins or ends; a zone off or on for the
whole period has none (R40). -/
def windowEdges (z : Zone) (grant : Nat) : List Nat :=
  if grant = 0 ∨ 64 ≤ grant then []
  else [windowStart z, (windowStart z + windowLength grant) % Config.controlPeriod]

/-- A zone whose grant was lowered within the period: its window keeps its start and is shortened, so an output that was on
stays on only inside the shortened window (R41). -/
def shortened (s : State) (z : Zone) (grant : Nat) (output : Bool) : Bool :=
  output && inWindow z grant (periodTime s)

/-! ### Stages 1 to 3 (R30 to R33) -/

/-- 64 times the deficit over the band, rounded up, within 0 to 64 (R31). -/
def requestOf (working temp : Int) (band : Nat) : Nat :=
  let e := working - temp
  if e ≤ 0 then 0
  else if (band : Int) ≤ e then 64
  else (64 * e.toNat + band - 1) / band

/-- Stage 1: the working setpoint (R30). -/
def workingSetpoint (r : ZoneRecord) (host : HostState) (suppress : Bool) : Option Int :=
  if !r.enable then none
  else if host.keepWarm then
    if r.keepWarm && !suppress then some r.keepWarmSetpoint else none
  else some r.setpoint

/-- Stage 2 for a zone with a working setpoint (R31, R32). -/
def stageRequest (r : ZoneRecord) (working : Int) (reading : ReadingState × Option Int) (z : ZoneState) : ZoneState :=
  match reading with
  | (.current, some t) =>
    let q := requestOf working t r.band
    { z with request := q, held := some q, holdCount := 0 }
  | (.held, _) =>
    match z.held with
    | some q =>
      if z.holdCount < r.holdPeriods then { z with request := q, holdCount := z.holdCount + 1 }
      else { z with request := r.fallback }
    | none => { z with request := r.fallback }
  | _ => { z with request := r.fallback }

/-- Stages 1 to 3 of a zone at a control period start (R30 to R33). -/
def stageOneToThree (s : State) (z : Zone) : ZoneState :=
  let r := s.heat.records[z]
  let st := s.heat.zones[z]
  let w := workingSetpoint r s.hpc.host s.hpc.suppress
  let st1 := { st with working := w }
  let st2 :=
    match w with
    | some w => stageRequest r w (zoneReading s z) st1
    | none => { st1 with request := 0 }
  { st2 with cut := decide (0 < st.cutDemand) }

/-- The allocation request of a zone: 0 when it is cut, its request otherwise (R33, R38). -/
def allocationRequest (z : ZoneState) : Nat := if z.cut then 0 else z.request

/-! ### Stage 4 (R34, R35) -/

/-- The sum over the four zones of duty times rated current. -/
def demand (duty current : Zone → Nat) : Nat :=
  duty 0 * current 0 + duty 1 * current 1 + duty 2 * current 2 + duty 3 * current 3

/-- The enabled zones in ascending order of priority, the order of the leftover pass (R35). -/
def visitOrder (records : Vector ZoneRecord 4) : List Zone :=
  ([0, 1, 2, 3] : List (Fin 4)).flatMap fun p =>
    allZones.filter fun z => records[z].enable && records[z].priority = p

/-- One visit of the leftover pass: a step for a zone below its request whose current the leftover covers (R35). -/
def leftoverVisit (request current : Zone → Nat) (acc : (Zone → Nat) × Nat) (z : Zone) : (Zone → Nat) × Nat :=
  if acc.1 z < request z ∧ current z ≤ acc.2 then
    (fun y => if y = z then acc.1 z + 1 else acc.1 y, acc.2 - current z)
  else acc

/-- Stage 4: the granted duties within 64 times the budget, and BUDGET_LIMITED (R34, R35). -/
def allocate (budget : Nat) (order : List Zone) (request current : Zone → Nat) : (Zone → Nat) × Bool :=
  let b64 := 64 * budget
  let total := demand request current
  if total ≤ b64 then (request, false)
  else
    let scaled : Zone → Nat := fun z => request z * b64 / total
    ((order.foldl (leftoverVisit request current) (scaled, b64 - demand scaled current)).1, true)

/-! ### Stage 5 (R37) -/

/-- Case 1 of the rest limit, for a rest count above 0 (R37). -/
def restCase (r : ZoneRecord) (rest grant : Nat) (z : ZoneState) : ZoneState :=
  { z with
    grant := min grant r.restDuty
    restCount := rest - 1
    onStreak := if rest - 1 = 0 then 0 else z.onStreak }

/-- Stage 5: the rest limit on a zone's grant (R37). -/
def stageRest (r : ZoneRecord) (grant : Nat) (z : ZoneState) : ZoneState :=
  if 0 < z.restCount then restCase r z.restCount grant z
  else if grant = 64 then
    if r.maxOn ≠ 0 ∧ z.onStreak = r.maxOn then restCase r r.restPeriods grant z
    else { z with grant := grant, onStreak := min (z.onStreak + 1) 255 }
  else { z with grant := grant, onStreak := 0 }

/-! ### The two computations -/

/-- The period-start grant computation (R29): stages 1 to 5, and the outputs as the new grants drive them at the present
moment (R40). -/
def periodComputation (s : State) : State :=
  let st := quad (stageOneToThree s)
  let current : Zone → Nat := fun z => s.heat.records[z].current
  let a := allocate (budgetInForce s) (visitOrder s.heat.records) (fun z => allocationRequest st[z]) current
  let zs := quad fun z =>
    let z' := stageRest s.heat.records[z] (a.1 z) st[z]
    { z' with output := inWindow z z'.grant (periodTime s) }
  let s' := { s with heat.zones := zs, heat.limited := a.2 }
  if a.2 then countEvent .limitedPeriods s' else s'

/-- A control period starts at moment `t` (R28, R29). -/
def startPeriod (t : Nat) (s : State) : State := periodComputation { s with heat.periodStart := some t }

/-- The immediate recomputation (R38): stage 3 sets cut flags, stage 4 allocates the stored requests against the budget in
force, and no grant rises. -/
def immediateRecompute (s : State) : State :=
  let st := quad fun z => { s.heat.zones[z] with cut := s.heat.zones[z].cut || decide (0 < s.heat.zones[z].cutDemand) }
  let current : Zone → Nat := fun z => s.heat.records[z].current
  let a := allocate (budgetInForce s) (visitOrder s.heat.records) (fun z => allocationRequest st[z]) current
  let zs := quad fun z =>
    let g := min (a.1 z) st[z].grant
    { st[z] with grant := g, output := shortened s z g st[z].output }
  { s with heat.zones := zs, heat.limited := a.2 }

/-! ### Commands -/

/-- CONTROL_PERIOD_START (R29): the next period start is 1000 ms after the last (R28). -/
def execControlPeriodStart (s : State) : Result := upon s fun s =>
  match s.heat.periodStart with
  | some p => finish (startPeriod (p + Config.controlPeriod) (reach (p + Config.controlPeriod) s))
  | none => finish s

/-- The next edge of a zone's window in the present period that lies after the present moment, in units after the period
start. -/
def nextEdge (s : State) (z : Zone) : Option Nat :=
  ((windowEdges z s.heat.zones[z].grant).filter fun e => periodTime s < e).min?

/-- The output of a zone follows its window at the present moment (R42). -/
def driveOutput (z : Zone) (s : State) : State :=
  let on := inWindow z s.heat.zones[z].grant (periodTime s)
  { s with heat.zones := vset s.heat.zones z { s.heat.zones[z] with output := on } }

/-- An output that does not show its window at the present moment: an edge has been reached and not yet taken. -/
def edgeReached (s : State) (z : Zone) : Bool :=
  s.heat.periodStart.isSome && s.heat.zones[z].output != inWindow z s.heat.zones[z].grant (periodTime s)

/-- DRIVE_WINDOW_EDGE of a zone (R40): an edge already reached acts now, otherwise the period's next edge is taken at its
moment. -/
def execDriveWindowEdge (z : Zone) (s : State) : Result := upon s fun s =>
  match s.heat.periodStart with
  | some p =>
    if edgeReached s z then finish (driveOutput z s)
    else
      match nextEdge s z with
      | some e => finish (driveOutput z (reach (p + e) s))
      | none => finish s
  | none => finish s

end Sys2Proof.Machine
end

