-- ==== Sys2Proof/Machine/Power.lean ====
section
/-! DEFINITION. The Host Power Controller (chapters 1 and 6): changes of host state and what they bring, the cold-start gate,
the rail steps, the drain, the restart ladder. -/

namespace Sys2Proof.Machine

open Sys2Proof

/-! ### A change of host state -/

/-- The relay abandons every command it holds without a reply; the in-flight transaction becomes an ORPHAN (R155). -/
def abandonRelay (s : State) : State :=
  { s with
    relay.queue := []
    relay.link := s.relay.link.map fun l => if l.use = .relay then { l with use := .orphan } else l }

/-- Every press reported mark is cleared (R141). -/
def clearReported (s : State) : State :=
  { s with keymap.positions := vmap (fun p => { p with reported := false }) s.keymap.positions }

/-- The effects of a host restart event outside the host state itself: the relay abandons its commands (R155), both Frame
Engine queues are emptied (R166), the last heartbeat record and sequence become absent (R66, R95). -/
def hostRestartEvent (s : State) : State :=
  let s' := flushQueues (abandonRelay s)
  { s' with hpc.beat := none, hpc.lastSeq := none }

/-- The budget in force follows the host state, with an immediate recomputation when it falls (R25). -/
def adoptHost (new : HostState) (s : State) : State :=
  let s' := { s with hpc.host := new }
  if budgetInForce s' < budgetInForce s then immediateRecompute s' else s'

/-- The host state becomes `new`, with all that a change of host state brings: the budget (R25), the press reported marks
(R141), the cancelling of a pending restart (R108), the host restart event, the receiver (R160), the host word (R173). -/
def moveHost (new : HostState) (s : State) : State :=
  let old := s.hpc.host
  let s1 := adoptHost new s
  let s2 := if old.keysReported && !new.keysReported then clearReported s1 else s1
  let s3 := if old.running && !new.running then { s2 with hpc.pendingRestart := none } else s2
  let s4 := if new.restartEvent then hostRestartEvent s3 else s3
  let s5 := if old.delivers != new.delivers then { s4 with panel.partialFrame := [] } else s4
  if new.keepWarm then { s5 with outs.hostWord := 0 } else s5

/-! ### Rails (R12 to R16) -/

/-- The rails in ascending order. -/
def allRails : List Rail := [0, 1, 2]

/-- The lowest rail of a mask whose index is at least k. -/
def railFrom (mask : Vector Bool 3) (k : Nat) : Option Rail := (allRails.filter fun r => k ≤ r.val && mask[r]).head?

/-- The highest rail of a set. -/
def highestRail (set : Vector Bool 3) : Option Rail := (allRails.filter fun r => set[r]).getLast?

/-- A rail in WAIT_PG sees its power-good: it is up and its step enters SETTLE (R12 step 3). -/
def railUp (k : Rail) (s : State) : State :=
  { s with
    hpc.up := vset s.hpc.up k true
    hpc.railStep := some { rail := k, phase := .settle, timer := startTimer s (ms s.hpc.sequence.settle[k]) } }

/-- The rail step of rail k begins: its enable is asserted and its pg timeout starts; a power-good already high counts as
arriving at that moment (R12). -/
def beginRailStep (k : Rail) (s : State) : State :=
  let s' := { s with
    hpc.enables := vset s.hpc.enables k true
    hpc.railStep := some { rail := k, phase := .waitPg, timer := startTimer s (ms s.hpc.sequence.pgTimeout[k]) } }
  if s.hpc.powerGood[k] then railUp k s' else s'

/-- Entry into BOOT: the host reset is released and the boot window timer starts (R12, R92, R102). -/
def enterBoot (s : State) : State :=
  moveHost .boot
    { s with hpc.hostReset := false, hpc.railStep := none, hpc.pulseTimer := none
             hpc.bootTimer := some (startTimer s (sec s.hpc.ladder.bootWindow)) }

/-- The rail drop (R16): every enable is cleared and the host reset asserted. -/
def railDrop (s : State) : State :=
  { s with
    hpc.enables := #v[false, false, false]
    hpc.up := #v[false, false, false]
    hpc.hostReset := true
    hpc.railStep := none }

/-! ### Cold-start gate (R5 to R12) -/

/-- The lowest of the values that are present. -/
def lowestOf (l : List (Option Int)) : Option Int := (l.filterMap id).min?

/-- The start record at an entry into RAILS (R11). -/
def startRecord (kind : StartKind) (s : State) : StartRecord where
  kind := kind
  uptime := uptime s
  lowest := lowestOf ((gatedZones s).map (gateReading s))
  failedTests := s.hpc.start.failedTests

/-- Entry into RAILS: the start record is written, the rail mask is read, and the lowest rail's step begins (R11, R12). -/
def enterRails (kind : StartKind) (s : State) : State :=
  let s1 := moveHost .rails
    { s with hpc.start := startRecord kind s, hpc.maskInUse := s.hpc.sequence.railMask
             hpc.soakTimer := none, hpc.preheatTimer := none }
  match railFrom s1.hpc.maskInUse 0 with
  | some k => beginRailStep k s1
  | none => s1

/-- The soak completes (R8): the preheat timer is stopped and RAILS is entered with start kind NORMAL. -/
def completeSoak (s : State) : State := enterRails .normal s

/-- PREHEAT passes on to SOAK; a soak time of 0 completes at once (R7). -/
def enterSoak (s : State) : State :=
  let s1 := moveHost .soak { s with hpc.soakTimer := some (startTimer s (sec s.hpc.sequence.soakTime)) }
  if s1.hpc.sequence.soakTime = 0 then completeSoak s1 else s1

/-- The hold test of SOAK succeeds: every gated zone has a gate reading not below its gate temperature minus the gate
hysteresis (R9). -/
def holdSucceeds (s : State) : Bool :=
  (gatedZones s).all fun z =>
    match gateReading s z with
    | some t => decide (s.heat.records[z].gateTemp - s.hpc.sequence.gateHysteresis ≤ t)
    | none => false

/-- A gate evaluation: ALL_WARM in PREHEAT (R7), the hold test in SOAK (R9); no effect in another host state (R5). -/
def evaluateGate (s : State) : State :=
  match s.hpc.host with
  | .preheat => if allWarm s then enterSoak s else s
  | .soak => if holdSucceeds s then s else moveHost .preheat { s with hpc.soakTimer := none }
  | .standby | .rails | .boot | .run | .warn | .restart | .powerCycle | .lockout | .drain => s

/-- The Probe Scheduler reports a good sample or a missing channel: the gate is evaluated if a gated zone uses the
channel (R5). -/
def gateReport (c : Channel) (s : State) : State :=
  if (gatedZones s).any fun z => s.heat.records[z].channel = c then evaluateGate s else s

/-- Entry into PREHEAT (R6): the preheat timer starts, failed tests and suppression are cleared, the gate is evaluated. -/
def enterPreheat (s : State) : State :=
  evaluateGate <| moveHost .preheat
    { s with
      hpc.preheatTimer := some (startTimer s (sec s.hpc.sequence.preheatTimeout))
      hpc.start.failedTests := 0
      hpc.suppress := false
      hpc.powerOffTimer := none
      hpc.retryTimer := none }

/-- The forced-start test passes (R10). -/
def forcedStartPasses (s : State) : Bool :=
  (gatedZones s).all fun z =>
    match gateReading s z with
    | some t => decide (s.heat.records[z].minStart ≤ t)
    | none => s.hpc.sequence.startWithoutProbe

/-- The forced-start test (R10): RAILS with start kind FORCED, or one more failed test and the preheat timer again. -/
def forcedStartTest (s : State) : State :=
  if forcedStartPasses s then enterRails .forced s
  else
    { s with
      hpc.start.failedTests := min (s.hpc.start.failedTests + 1) 255
      hpc.preheatTimer := some (startTimer s (sec s.hpc.sequence.preheatTimeout)) }

/-- A wake request: PREHEAT from STANDBY once the HPC has read auto_start, ignored otherwise (R22). -/
def wakeRequest (s : State) : State :=
  if s.hpc.host = .standby ∧ s.power = .running then enterPreheat s else s

/-! ### Drain (R17 to R20) -/

/-- The watchdog timers are discarded (R18, R101, R103). -/
def discardWatchdog (s : State) : State :=
  { s with hpc.bootTimer := none, hpc.heartbeatTimer := none, hpc.graceTimer := none, hpc.stableTimer := none }

/-- Entry into DRAIN's wait phase (R18); a relay that holds nothing begins rail-off at that entry. -/
def enterDrain (s : State) : State :=
  let s1 := discardWatchdog s
  reportRelayEmpty <| moveHost .drain
    { s1 with hpc.railOff := false, hpc.drainTimer := some (startTimer s (ms s.hpc.sequence.drainTimeout)) }

/-- One expiry of the off settle (R20): the highest rail still asserted is released; with none left the host state becomes
STANDBY. -/
def offSettleStep (s : State) : State :=
  let s1 :=
    match highestRail s.hpc.enables with
    | some k => { s with hpc.enables := vset s.hpc.enables k false, hpc.up := vset s.hpc.up k false }
    | none => s
  match highestRail s1.hpc.enables with
  | some _ => { s1 with hpc.offSettleTimer := some (startTimer s1 (ms s1.hpc.sequence.offSettle)) }
  | none => moveHost .standby { s1 with hpc.offSettleTimer := none, hpc.railOff := false }

/-! ### Restarts (R100 to R110) -/

/-- The lowest temperature in use among enabled zones whose reading state is CURRENT (Table 6-4). -/
def lowestEnabled (s : State) : Option Int :=
  lowestOf ((allZones.filter fun z => s.heat.records[z].enable).map (gateReading s))

/-- A restart log record is written, with the host state left as host state before (R110). -/
def writeLog (cause : RestartCause) (action : RestartAction) (s : State) : State :=
  let seq := (s.hpc.logSeq + 1) % 65536
  let r : LogRecord :=
    { sequence := seq, cause := cause, action := action, before := s.hpc.host, uptime := uptime s
      lowest := lowestEnabled s, hardLength := s.hpc.hardList.length, softCount := s.hpc.softCount }
  let l := s.hpc.log ++ [r]
  { s with hpc.logSeq := seq, hpc.log := l.drop (l.length - Config.logEntries) }

/-- A soft restart (R101). -/
def softRestart (cause : RestartCause) (s : State) : State :=
  let s1 := discardWatchdog (writeLog cause .soft s)
  moveHost .restart
    { s1 with hpc.hostReset := true, hpc.pulseTimer := some (startTimer s1 (ms s1.hpc.ladder.resetPulse)) }

/-- Entry into POWER_CYCLE (R104). -/
def enterPowerCycle (s : State) : State :=
  let s1 := railDrop s
  moveHost .powerCycle { s1 with hpc.powerOffTimer := some (startTimer s1 (sec s1.hpc.ladder.powerOffTime)) }

/-- Entry into LOCKOUT (R105): the retry timer runs under AUTO_RETRY. -/
def enterLockout (s : State) : State :=
  let s1 := railDrop s
  let t : Option Timer :=
    match s1.hpc.ladder.policy with
    | .autoRetry => some (startTimer s1 (minutes s1.hpc.ladder.retry))
    | .waitService => none
  moveHost .lockout { s1 with hpc.retryTimer := t }

/-- The hard-restart list after prune, make room and append (R103 steps 1 to 3). -/
def hardListAfter (s : State) : List Nat :=
  let up := uptime s
  let pruned := s.hpc.hardList.filter fun u => up - u ≤ 60 * s.hpc.ladder.hardWindow
  let room := if s.hpc.ladder.hardLimit ≤ pruned.length then pruned.drop (pruned.length + 1 - s.hpc.ladder.hardLimit) else pruned
  room ++ [up]

/-- The hard-restart decision (R103). -/
def hardDecision (cause : RestartCause) (s : State) : State :=
  let list := hardListAfter s
  let s1 := { s with hpc.hardList := list, hpc.softCount := 0 }
  let lock : Bool := s.hpc.ladder.hardLimit ≤ list.length
  let s2 := writeLog cause (if lock then .lockout else .hard) s1
  let s3 := discardWatchdog { s2 with hpc.pulseTimer := none, hpc.drainTimer := none }
  if lock then enterLockout s3 else enterPowerCycle s3

/-- An escalation (R100). -/
def escalate (cause : RestartCause) (s : State) : State :=
  if s.hpc.softCount < s.hpc.ladder.maxSoft then
    softRestart cause { s with hpc.softCount := s.hpc.softCount + 1 }
  else hardDecision cause s

/-- A rail fault (R15). -/
def railFault (k : Rail) (s : State) : State :=
  let s1 := recordError .railFault { index := some (k.val + 1) } s
  hardDecision .railFault { s1 with hpc.railStep := none, hpc.drainTimer := none, hpc.offSettleTimer := none }

/-- Power-good falls are watched: RAILS, BOOT, RUN, WARN, RESTART, and DRAIN's wait phase (R14). -/
def railWatched (s : State) : Bool :=
  match s.hpc.host with
  | .rails | .boot | .run | .warn | .restart => true
  | .drain => !s.hpc.railOff
  | .standby | .preheat | .soak | .powerCycle | .lockout => false

/-- A lockout exit (R106). -/
def exitLockout (s : State) : State :=
  enterPreheat { s with hpc.hardList := [], hpc.softCount := 0, hpc.retryTimer := none }

/-- ACK_LOCKOUT: exits LOCKOUT, ignored in every other host state (R106). -/
def ackLockout (s : State) : State := if s.hpc.host = .lockout then exitLockout s else s

/-- REQUEST_RESTART (R109). -/
def requestRestart (s : State) : State := if s.hpc.host.running then softRestart .serviceRequest s else s

/-- REQUEST_SHUTDOWN: as SHUTDOWN with keep-warm 1, without a reply (R17). -/
def requestShutdown (s : State) : State := if s.hpc.host.running then enterDrain s else s

/-- The pending restart is made (R108). -/
def makePendingRestart (kind : RestartKind) (s : State) : State :=
  let s1 := { s with hpc.pendingRestart := none }
  match kind with
  | .soft => softRestart .hostRequest s1
  | .hard => enterPowerCycle (discardWatchdog (writeLog .hostRequest .hard s1))

/-- The reply of a HOST_RESTART has left the reply queue (R108). -/
def hostRestartReplyLeft (s : State) : State :=
  match s.hpc.pendingRestart with
  | some kind => makePendingRestart kind s
  | none => s

/-- A timer's expiry: an expiry of a timer that runs happens at its moment, one of a timer that does not run does not occur
(log 3). -/
def onExpiry (t : Option Timer) (act : State → State) (s : State) : Result :=
  match t with
  | some t => finish (act (reach t.deadline s))
  | none => finish s

/-! ### Commands of chapter 1 -/

/-- PREHEAT_TIMER_EXPIRY, in PREHEAT or SOAK (R10). -/
def execPreheatTimerExpiry (s : State) : Result := upon s fun s =>
  onExpiry (if s.hpc.host = .preheat ∨ s.hpc.host = .soak then s.hpc.preheatTimer else none) forcedStartTest s

/-- SOAK_TIMER_EXPIRY, in SOAK (R8). -/
def execSoakTimerExpiry (s : State) : Result := upon s fun s =>
  onExpiry (if s.hpc.host = .soak then s.hpc.soakTimer else none) completeSoak s

/-- POWER_GOOD_ARRIVAL: the input is high; the rail in WAIT_PG enters SETTLE (R12, R13). -/
def execPowerGoodArrival (k : Rail) (s : State) : Result := upon s fun s =>
  let s1 := { s with hpc.powerGood := vset s.hpc.powerGood k true }
  match s.hpc.railStep with
  | some st => if s.hpc.host = .rails ∧ st.rail = k ∧ st.phase = .waitPg then finish (railUp k s1) else finish s1
  | none => finish s1

/-- PG_TIMEOUT_EXPIRY: a rail fault on the rail in WAIT_PG (R13). -/
def execPgTimeoutExpiry (s : State) : Result := upon s fun s =>
  match s.hpc.railStep with
  | some st =>
    if s.hpc.host = .rails ∧ st.phase = .waitPg then finish (railFault st.rail (reach st.timer.deadline s)) else finish s
  | none => finish s

/-- SETTLE_EXPIRY: the next higher rail's step begins, or the host reset is released and BOOT entered (R12). -/
def settleEnds (k : Rail) (s : State) : State :=
  match railFrom s.hpc.maskInUse (k.val + 1) with
  | some k' => beginRailStep k' s
  | none => enterBoot s

/-- SETTLE_EXPIRY (R12 step 4). -/
def execSettleExpiry (s : State) : Result := upon s fun s =>
  match s.hpc.railStep with
  | some st =>
    if s.hpc.host = .rails ∧ st.phase = .settle then finish (settleEnds st.rail (reach st.timer.deadline s)) else finish s
  | none => finish s

/-- POWER_GOOD_FALL: the input is low; a fall on an up rail that is watched is a rail fault (R14). -/
def execPowerGoodFall (k : Rail) (s : State) : Result := upon s fun s =>
  let s1 := { s with hpc.powerGood := vset s.hpc.powerGood k false }
  if s.hpc.enables[k] && s.hpc.up[k] && railWatched s then finish (railFault k s1) else finish s1

/-- OFF_SETTLE_EXPIRY, in DRAIN's rail-off (R20). -/
def execOffSettleExpiry (s : State) : Result := upon s fun s =>
  onExpiry (if s.hpc.host = .drain then s.hpc.offSettleTimer else none) offSettleStep s

/-- WAKE_EDGE (R22). -/
def execWakeEdge (s : State) : Result := upon s fun s => finish (wakeRequest s)

/-- SHUTDOWN at its owner: state, then keep-warm value, then DRAIN (R17). -/
def applyShutdown (keepWarm : Byte) (s : State) : State × Answer :=
  if !s.hpc.host.running then (s, .refuse .state)
  else if 2 ≤ keepWarm.toNat then (s, .refuse .badRequest)
  else
    let s1 := if keepWarm = 0 then { s with hpc.suppress := true } else s
    (enterDrain s1, .done)

/-- SHUTDOWN (R17). -/
def execShutdown (tag : Tag) (keepWarm : Byte) (s : State) : Result := upon s fun s =>
  supervisorOp tag 0x12 (applyShutdown keepWarm) s

/-! ### Commands of chapter 6 -/

/-- BOOT_WINDOW_EXPIRY, in BOOT (R92). -/
def execBootWindowExpiry (s : State) : Result := upon s fun s =>
  onExpiry (if s.hpc.host = .boot then s.hpc.bootTimer else none) (escalate .bootTimeout) s

/-- The time since the last accepted heartbeat in ms, 0 to 60,000 (Table 6-3). -/
def sinceHeartbeat (s : State) : Nat :=
  match s.hpc.beat with
  | some b => min ((s.now - b.moment) / 8) 60000
  | none => 0

/-- RUN passes to WARN: the grace timer starts and the WATCHDOG_WARN notice is handed; a grace of 0 expires at once (R97). -/
def enterWarn (s : State) : State :=
  let s1 := moveHost .warn
    { s with hpc.heartbeatTimer := none, hpc.graceTimer := some (startTimer s (ms s.hpc.ladder.grace)) }
  let s2 := handNotice
    (.watchdogWarn (uptime s1) (sinceHeartbeat s1) s1.hpc.ladder.grace s1.hpc.softCount s1.hpc.ladder.maxSoft) s1
  if s2.hpc.ladder.grace = 0 then escalate .watchdogExpiry s2 else s2

/-- HEARTBEAT_TIMER_EXPIRY, in RUN (R97). -/
def execHeartbeatTimerExpiry (s : State) : Result := upon s fun s =>
  onExpiry (if s.hpc.host = .run then s.hpc.heartbeatTimer else none) enterWarn s

/-- GRACE_EXPIRY, in WARN (R98). -/
def execGraceExpiry (s : State) : Result := upon s fun s =>
  onExpiry (if s.hpc.host = .warn then s.hpc.graceTimer else none) (escalate .watchdogExpiry) s

/-- STABLE_TIME_REACHED: the soft-attempt count is cleared and the timer stops (R99). -/
def execStableTimeReached (s : State) : Result := upon s fun s =>
  onExpiry (if s.hpc.host.keysReported then s.hpc.stableTimer else none)
    (fun s => { s with hpc.softCount := 0, hpc.stableTimer := none }) s

/-- RESET_PULSE_EXPIRY, in RESTART (R102). -/
def execResetPulseExpiry (s : State) : Result := upon s fun s =>
  onExpiry (if s.hpc.host = .restart then s.hpc.pulseTimer else none) enterBoot s

/-- POWER_OFF_EXPIRY, in POWER_CYCLE (R104). -/
def execPowerOffExpiry (s : State) : Result := upon s fun s =>
  onExpiry (if s.hpc.host = .powerCycle then s.hpc.powerOffTimer else none) enterPreheat s

/-- LOCKOUT_RETRY_EXPIRY, in LOCKOUT under AUTO_RETRY (R106). -/
def execLockoutRetryExpiry (s : State) : Result := upon s fun s =>
  onExpiry (if s.hpc.host = .lockout then s.hpc.retryTimer else none) exitLockout s

/-- The heartbeat is early (R95 check 2). -/
def heartbeatEarly (s : State) : Bool :=
  match s.hpc.beat with
  | some b => s.hpc.ladder.earlyWindow ≠ 0 && decide (s.now - b.moment < ms s.hpc.ladder.earlyWindow)
  | none => false

/-- An accepted heartbeat (R96). -/
def acceptHeartbeat (seq : Byte) (s : State) : State :=
  let tw := s.hpc.ladder.period
  let s1 := countEvent .heartbeats
    { s with hpc.beat := some { moment := s.now, period := tw }, hpc.lastSeq := some seq }
  let beat : Option Timer := some (startTimer s (ms tw))
  match s.hpc.host with
  | .boot =>
    moveHost .run
      { s1 with hpc.bootTimer := none, hpc.heartbeatTimer := beat
                hpc.stableTimer := some (startTimer s (minutes s.hpc.ladder.stableTime)) }
  | .run => { s1 with hpc.heartbeatTimer := beat }
  | .warn => moveHost .run { s1 with hpc.graceTimer := none, hpc.heartbeatTimer := beat }
  | .standby | .preheat | .soak | .rails | .restart | .powerCycle | .lockout | .drain => s1

/-- HEARTBEAT at its owner, with the checks of R95 in order. -/
def applyHeartbeat (seq : Byte) (s : State) : State × Answer :=
  if !s.hpc.host.running then (s, .refuse .state)
  else if heartbeatEarly s then (countEvent .earlyHeartbeats s, .refuse .early)
  else if s.hpc.lastSeq = some seq then (s, .refuse .badRequest)
  else (acceptHeartbeat seq s, .done)

/-- HEARTBEAT (R95, R96). -/
def execHeartbeat (tag : Tag) (seq : Byte) (s : State) : Result := upon s fun s =>
  supervisorOp tag 0x10 (applyHeartbeat seq) s

/-- HOST_RESTART at its owner: host state, pending request, kind, in that order (R107). -/
def applyHostRestart (kind : Byte) (s : State) : State × Answer :=
  if !s.hpc.host.running then (s, .refuse .state)
  else if s.hpc.pendingRestart.isSome then (s, .refuse .state)
  else if kind = 0 then ({ s with hpc.pendingRestart := some .soft }, { status := .done, restart := true })
  else if kind = 1 then ({ s with hpc.pendingRestart := some .hard }, { status := .done, restart := true })
  else (s, .refuse .badRequest)

/-- HOST_RESTART (R107). -/
def execHostRestart (tag : Tag) (kind : Byte) (s : State) : Result := upon s fun s =>
  supervisorOp tag 0x11 (applyHostRestart kind) s

end Sys2Proof.Machine
end

