-- ==== Sys2Proof/Machine/Actions.lean ====
section
/-! DEFINITION. The Action Table Unit (chapter 5): level and edge actions, sample evaluation, stale policies, guards, and the
loading, locking and flushing of entries. -/

namespace Sys2Proof.Machine

open Sys2Proof

/-! ### Actions (R81, R82) -/

/-- A level action changes the count it names by `f` (Table 5-7). -/
def changeLevel (f : Nat → Nat) (a : LevelAction) (s : State) : State :=
  match a with
  | .none => s
  | .cutZone z =>
    { s with heat.zones := vset s.heat.zones z { s.heat.zones[z] with cutDemand := f s.heat.zones[z].cutDemand } }
  | .forceOn o => { s with outs.forceOn := vset s.outs.forceOn o (f s.outs.forceOn[o]) }
  | .forceOff o => { s with outs.forceOff := vset s.outs.forceOff o (f s.outs.forceOff[o]) }

/-- A level action is applied: its count is incremented (R82). -/
def applyLevel (a : LevelAction) (s : State) : State := changeLevel (· + 1) a s

/-- A level action is released: its count is decremented (R82). -/
def releaseLevel (a : LevelAction) (s : State) : State := changeLevel (· - 1) a s

/-- The runtime state of a slot is replaced. -/
def setRule (i : Slot) (r : RuleState) (s : State) : State := { s with acts.rules := vset s.acts.rules i r }

/-- The edge action runs (R81). -/
def runEdge (i : Slot) (r : SampleRule) (cause : TripCause) (value : Option Int) (s : State) : State :=
  match r.edge with
  | .none => s
  | .setFlag f => setUserFlag f s
  | .clearFlag f => clearUserFlag f s
  | .notify => handNotice (.rule i r.channel cause value s.acts.rules[i].trips) s

/-- A trip: tripped, the count, the level action, then the edge action (R80, R84). -/
def tripRule (i : Slot) (r : SampleRule) (cause : TripCause) (value : Option Int) (s : State) : State :=
  runEdge i r cause value
    (applyLevel r.level (setRule i { tripped := true, trips := min (s.acts.rules[i].trips + 1) 255 } s))

/-- A clear: tripped becomes 0 and the level action is released (R79, R80). -/
def clearRule (i : Slot) (r : SampleRule) (s : State) : State :=
  releaseLevel r.level (setRule i { s.acts.rules[i] with tripped := false } s)

/-- The rule is inactive: a tripped rule is cleared silently (R79). -/
def inactiveRule (i : Slot) (r : SampleRule) (s : State) : State :=
  if s.acts.rules[i].tripped then clearRule i r s else s

/-! ### Good samples (R78 to R83) -/

/-- The trip test of a rule that is not tripped (Table 5-5). -/
def tripTest (r : SampleRule) (v : Int) : Bool :=
  match r.compare with
  | .above => r.threshold < v
  | .below => v < r.threshold

/-- The clear test of a tripped rule (Table 5-5). -/
def clearTest (r : SampleRule) (v : Int) : Bool :=
  match r.compare with
  | .above => v ≤ r.threshold - r.hysteresis
  | .below => r.threshold + r.hysteresis ≤ v

/-- An active rule takes a sample value: trip, clear or unchanged (R80). -/
def activeRule (i : Slot) (r : SampleRule) (v : Int) (s : State) : State :=
  if s.acts.rules[i].tripped then
    if clearTest r v then clearRule i r s else s
  else if tripTest r v then tripRule i r .sample (some v) s
  else s

/-- A reporting rule hands its SAMPLE notice after its actions (R83). -/
def reportSample (i : Slot) (r : SampleRule) (v : Int) (s : State) : State :=
  if r.report then handNotice (.sample i r.channel v s.acts.rules[i].tripped) s else s

/-- One slot evaluates a good sample of channel c (R78). -/
def evaluateSlot (c : Channel) (v : Int) (s : State) (i : Slot) : State :=
  match s.acts.entries[i] with
  | some (.sample r) =>
    if r.channel = c then
      if condition s r.condition then reportSample i r v (activeRule i r v s) else inactiveRule i r s
    else s
  | _ => s

/-- The set of a channel's rules: its number modulo 8 (R74). -/
def channelSet (c : Channel) : Fin 8 := ⟨c.val % 8, by omega⟩

/-- A good sample is evaluated by every rule of its channel, way by way (R78). -/
def evaluateSample (c : Channel) (v : Int) (s : State) : State := (setSlots (channelSet c)).foldl (evaluateSlot c v) s

/-! ### Stale policies (R84) -/

/-- A sample rule at the start of its channel's missing episode (R84). -/
def staleRule (i : Slot) (r : SampleRule) (s : State) : State :=
  if condition s r.condition then
    match r.stale with
    | .hold => s
    | .trip =>
      if s.acts.rules[i].tripped then s
      else tripRule i r .stale (s.probe.chans[r.channel].last.map Sample.value) s
  else inactiveRule i r s

/-- One slot at the start of channel c's missing episode. -/
def staleSlot (c : Channel) (s : State) (i : Slot) : State :=
  match s.acts.entries[i] with
  | some (.sample r) => if r.channel = c then staleRule i r s else s
  | _ => s

/-- The report that channel c has become missing (R84). -/
def staleReport (c : Channel) (s : State) : State := (setSlots (channelSet c)).foldl (staleSlot c) s

/-! ### Guards (R85) -/

/-- A guard rule's op mask covers the operation (Table 5-3). -/
def GuardRule.covers (g : GuardRule) : RelayOp → Bool
  | .read => g.coversRead
  | .write => g.coversWrite

/-- The guard of window w holds for an operation (R85). -/
def guardHolds (s : State) (w : Fin 8) (op : RelayOp) : Bool :=
  (setSlots w).any fun i =>
    match s.acts.entries[i] with
    | some (.guard g) => g.window = w && g.covers op && condition s g.condition
    | _ => false

/-! ### Loading, locking, flushing (R75 to R77, R86 to R88) -/

/-- The way selector of LOAD_ACTION (R75). -/
inductive WaySelector where
  | way (w : Fin 4)
  | any
deriving DecidableEq, Repr

/-- An entry record with its way selector: the set its key names, and the entry, none for an invalid record (R75). -/
structure ActionLoad where
  selector : WaySelector
  set : Fin 8
  entry : Option ActionEntry
deriving DecidableEq, Repr

/-- A slot's level action is released if its entry is a tripped sample rule (R77 step 1, R88). -/
def releaseSlot (i : Slot) (s : State) : State :=
  match s.acts.entries[i] with
  | some (.sample r) => if s.acts.rules[i].tripped then releaseLevel r.level s else s
  | _ => s

/-- The channel's missing episode starts for a rule loaded while its channel is missing (R77 step 3). -/
def startEpisode (i : Slot) (e : Option ActionEntry) (s : State) : State :=
  match e with
  | some (.sample r) => if s.probe.chans[r.channel].missing then staleRule i r s else s
  | _ => s

/-- The entry of a slot is replaced (R77): release, clear the runtime state, and start the episode of a missing channel. -/
def replaceEntry (i : Slot) (e : Option ActionEntry) (s : State) : State :=
  let s1 := setRule i RuleState.clear (releaseSlot i s)
  startEpisode i e { s1 with acts.entries := vset s1.acts.entries i e }

/-- The way that ANY chooses: the lowest unlocked way whose entry is invalid (R76). -/
def freeWay (s : State) (set : Fin 8) : Option (Fin 4) :=
  (([0, 1, 2, 3] : List (Fin 4)).filter fun w => s.acts.lock ≤ w && s.acts.entries[slotOf set w].isNone).head?

/-- LOAD_ACTION's choice of a way: the way, or the status that refuses it (R76). -/
def chooseWay (s : State) (set : Fin 8) : WaySelector → Fin 4 ⊕ Status
  | .way w => if w < s.acts.lock then .inr .locked else .inl w
  | .any =>
    match freeWay s set with
    | some w => .inl w
    | none => .inr .tableFull

/-- LOAD_ACTION at its owner, for a record that passes R75 (R76, R77). -/
def applyLoadAction (a : ActionLoad) (s : State) : State × Answer :=
  match chooseWay s a.set a.selector with
  | .inl w =>
    (replaceEntry (slotOf a.set w) a.entry s, { status := .done, payload := byte1 a.set.val ++ byte1 w.val })
  | .inr st => (s, .refuse st)

/-- LOCK_ACTIONS at its owner, with the checks of R87 in order. -/
def applyLockActions (count protect : Byte) (s : State) : State × Answer :=
  let k := count.toNat
  if s.imageState.isStoring then (s, .refuse .state)
  else if h : 1 ≤ k ∧ k ≤ 3 ∧ protect.toNat ≤ 1 then
    if s.acts.protect && k ≠ s.acts.lock.val then (s, .refuse .locked)
    else if k < s.acts.lock.val then (s, .refuse .badRequest)
    else
      let p := s.acts.protect || protect = 1
      ({ s with acts.lock := ⟨k, by omega⟩, acts.protect := p }
        , { status := .done, payload := byte1 k ++ byte1 p.toNat })
  else (s, .refuse .badRequest)

/-- LOCK_ACTIONS (R87). -/
def execLockActions (tag : Tag) (count protect : Byte) (s : State) : Result := upon s fun s =>
  supervisorOp tag 0x25 (applyLockActions count protect) s

/-- The slots, set by set and way by way. -/
def allSlots : List Slot := List.finRange 32

/-- A way the flush invalidates: every way, or with the protect flag set those at or above the lock count (R88). -/
def flushed (s : State) (i : Slot) : Bool := !s.acts.protect || s.acts.lock ≤ i.way

/-- One slot is invalidated: its level action is released, its runtime state cleared (R88). -/
def invalidateSlot (s : State) (i : Slot) : State :=
  let s1 := setRule i RuleState.clear (releaseSlot i s)
  { s1 with acts.entries := vset s1.acts.entries i none }

/-- The number of valid entries a flush invalidates (R88). -/
def flushCount (s : State) : Nat := (allSlots.filter fun i => flushed s i && s.acts.entries[i].isSome).length

/-- FLUSH_ACTIONS at its owner (R88). -/
def applyFlushActions (s : State) : State × Answer :=
  if s.imageState.isStoring then (s, .refuse .state)
  else
    let s1 := (allSlots.filter (flushed s)).foldl invalidateSlot s
    let s2 := if s.acts.protect then s1 else { s1 with acts.lock := 0 }
    (s2, { status := .done, payload := byte1 (flushCount s) ++ byte1 s2.acts.lock.val })

/-- FLUSH_ACTIONS (R88). -/
def execFlushActions (tag : Tag) (s : State) : Result := upon s fun s => supervisorOp tag 0x26 applyFlushActions s

/-- Every sample rule's runtime state is cleared, with its level action released (R89, SUPERVISOR_RESET). -/
def resetRules (s : State) : State :=
  allSlots.foldl (fun s i => setRule i RuleState.clear (releaseSlot i s)) s

end Sys2Proof.Machine
end

