-- ==== Sys2Proof/Machine/Probe.lean ====
section
/-! DEFINITION. The Probe Scheduler (chapter 3): due times and the poll queue, good samples, misses and the missing state;
and the debounce count N that a good sample recomputes (R115, R116). -/

namespace Sys2Proof.Machine

open Sys2Proof

/-! ### The debounce count (R115, R116) -/

/-- The temperature basis: the keypad zone's temperature in use when its reading state is CURRENT or HELD (R115). -/
def temperatureBasis (s : State) : Option Int :=
  match s.pad.record.zone with
  | some z => (zoneReading s z).2
  | none => none

/-- N of a keypad record and a temperature basis (R115). -/
def debounceCount (r : KeypadRecord) (basis : Option Int) : Nat :=
  match basis with
  | some t => min r.dMax (r.dBase + (-t).toNat / r.step)
  | none => r.dMax

/-- N is recomputed (R116). -/
def recomputeDebounce (s : State) : State :=
  let b := temperatureBasis s
  { s with pad.basis := b, pad.count := debounceCount s.pad.record b }

/-- A good sample of the channel named by the keypad zone's record recomputes N (R116). -/
def debounceReport (c : Channel) (s : State) : State :=
  match s.pad.record.zone with
  | some z => if s.heat.records[z].channel = c then recomputeDebounce s else s
  | none => s

/-! ### Schedule and poll queue (R48 to R51) -/

/-- The state of a channel is replaced. -/
def setChan (c : Channel) (x : ChannelState) (s : State) : State := { s with probe.chans := vset s.probe.chans c x }

/-- The channel joins the poll queue now (R49). -/
def joinQueue (c : Channel) (s : State) : State :=
  setChan c { s.probe.chans[c] with poll := .queued, joined := some s.now } s

/-- The channel is in the poll queue (Table 3-3). -/
def isQueued (s : State) (c : Channel) : Bool := s.probe.chans[c].poll = .queued

/-- The order of the poll queue: due time, then channel number (R50). -/
def queuedBefore (s : State) (c d : Channel) : Bool :=
  let x := s.probe.chans[c].due.getD 0
  let y := s.probe.chans[d].due.getD 0
  x < y || (x = y && c ≤ d)

/-- The poll queue, its head first (R50). -/
def pollQueue (s : State) : List Channel :=
  ((List.finRange 16).filter (isQueued s)).insertionSort fun c d => queuedBefore s c d

/-- The head of the poll queue (R50). -/
def pollHead (s : State) : Option Channel := (pollQueue s).head?

/-- The interval a waiting head is judged by: its stored effective interval, or its class interval (R50). -/
def judgedInterval (s : State) (c : Channel) : Nat :=
  s.probe.chans[c].interval.getD (s.probe.poll.classInterval s.probe.table[c].interval)

/-- The head is late: it has waited at least half its interval, rounded down (R50). -/
def isLate (s : State) (c : Channel) : Bool :=
  match s.probe.chans[c].joined with
  | some j => decide (ms (judgedInterval s c / 2) ≤ s.now - j)
  | none => false

/-- The effective interval of a channel now (R48). -/
def effectiveInterval (s : State) (c : Channel) : Nat :=
  let e := s.probe.table[c]
  let i := s.probe.poll.classInterval e.interval
  if e.coldDoubling && anyCold s then i / 2 else i

/-- The channel's side of a dispatch: out of the queue, the next due time, IN_FLIGHT (R51 steps 1 to 4). -/
def dispatchChannel (c : Channel) (s : State) : State :=
  let i := effectiveInterval s c
  setChan c { s.probe.chans[c] with poll := .inFlight, due := some (s.now + ms i), joined := none, interval := some i } s

/-- The result of the channel's poll has been handled: WAITING, or into the queue when its due time has passed (R49). -/
def afterResult (c : Channel) (s : State) : State :=
  match s.probe.chans[c].poll with
  | .inFlight => setChan c { s.probe.chans[c] with poll := .waiting } s
  | .inFlightDue => joinQueue c s
  | .off | .waiting | .queued => s

/-! ### Good samples and misses (R52 to R57) -/

/-- A good sample (R54, R55): the sample state first, then the sample rules, the gate and the debounce count (log 11). -/
def goodSample (c : Channel) (v : Int) (s : State) : State :=
  let x := s.probe.chans[c]
  let s1 := setChan c { x with last := some { value := v, moment := s.now }, misses := 0, missing := false } s
  debounceReport c (gateReport c (evaluateSample c v s1))

/-- The channel becomes missing (R57): PROBE_MISSING, the stale policies, the gate. -/
def becomeMissing (c : Channel) (s : State) : State :=
  let s1 := setChan c { s.probe.chans[c] with missing := true } s
  gateReport c (staleReport c (recordError .probeMissing { index := some c.val } s1))

/-- The channel becomes missing if its misses have reached its stale limit and it is not missing already (R46, R56). -/
def checkMissing (c : Channel) (s : State) : State :=
  let x := s.probe.chans[c]
  if !x.missing && s.probe.table[c].staleLimit ≤ x.misses then becomeMissing c s else s

/-- A miss (R56); `checked` says that it came from a reply that failed its check or carried other than two data bytes. A
channel already missing changes by it only in its misses count and the POLL_MISSES event (R56, R57; log 35). -/
def takeMiss (c : Channel) (checked : Bool) (s : State) : State :=
  let x := s.probe.chans[c]
  let s1 := countEvent .pollMisses (setChan c { x with misses := min (x.misses + 1) 15 } s)
  let s2 := if checked && !x.missing then recordError .fieldCheck { index := some c.val } s1 else s1
  checkMissing c s2

/-- How a C-port transaction ended (R150). -/
inductive FieldResult where
  | ack (data : List Byte)
  | nak
  | checkFailed
  | timeout
deriving DecidableEq, Repr

/-- The value of two data bytes, by the channel's kind (Table 3-4). -/
def sampleValue (k : ChannelKind) (data : List Byte) : Int :=
  match k with
  | .temperature => s16 data 0
  | .raw => u16 data 0

/-- A value the channel's kind accepts (Table 3-4). -/
def validSample (k : ChannelKind) (v : Int) : Bool :=
  match k with
  | .temperature => -550 ≤ v && v ≤ 1250
  | .raw => true

/-- A poll result is classified by Table 3-4 (R52). -/
def classify (c : Channel) (r : FieldResult) (s : State) : State :=
  match r with
  | .ack data =>
    if data.length = 2 then
      let k := s.probe.table[c].kind
      let v := sampleValue k data
      if validSample k v then goodSample c v s else takeMiss c false s
    else takeMiss c true s
  | .nak => takeMiss c false s
  | .checkFailed => takeMiss c true s
  | .timeout => takeMiss c false s

/-- The Probe Scheduler takes a poll's result: one that no longer belongs to its channel is discarded (R52, R53), and the
channel's poll state moves on (R49). -/
def takeResult (c : Channel) (owned : Bool) (r : FieldResult) (s : State) : State :=
  if owned then afterResult c (classify c r s) else s

/-! ### Loading (R45 to R47) -/

/-- A channel number and its entry. -/
structure ChannelLoad where
  channel : Channel
  entry : ChannelEntry
deriving DecidableEq, Repr

/-- The source changes between two entries (R46). -/
def sourceChanges (old new : ChannelEntry) : Bool :=
  !old.valid || !new.valid || old.module ≠ new.module || old.register ≠ new.register || old.kind ≠ new.kind

/-- A poll of the channel in flight no longer belongs to it (R46). -/
def disownPoll (c : Channel) (s : State) : State :=
  { s with relay.link := s.relay.link.map fun l =>
      match l.use with
      | .poll d owned => { l with use := .poll d (owned && d ≠ c) }
      | .relay => l
      | .orphan => l }

/-- The channel's schedule and sample state after a load (R46). -/
def reloadedChannel (s : State) (old new : ChannelEntry) (x : ChannelState) : ChannelState :=
  let sched : ChannelState :=
    if new.valid then { x with poll := .queued, due := some s.now, joined := some s.now, interval := none }
    else { x with poll := .off, due := none, joined := none, interval := none }
  if sourceChanges old new then { sched with last := none, misses := 0, missing := false } else sched

/-- LOAD_CHANNEL's effect on the table, the schedule and the sample state (R46), before the arbiter is asked. -/
def reloadChannel (l : ChannelLoad) (s : State) : State :=
  let old := s.probe.table[l.channel]
  let x := reloadedChannel s old l.entry s.probe.chans[l.channel]
  let s1 := setChan l.channel x (disownPoll l.channel { s with probe.table := vset s.probe.table l.channel l.entry })
  if sourceChanges old l.entry then s1 else checkMissing l.channel s1

/-- LOAD_POLL at its owner (R47). -/
def applyLoadPoll (r : PollRecord) (s : State) : State × Answer := ({ s with probe.poll := r }, .done)

end Sys2Proof.Machine
end

