-- ==== Sys2Proof/Machine/Relay.lean ====
section
/-! DEFINITION. The Relay Unit (chapter 9): window matching, the take checks, C-port transactions, the link arbiter with the
poll and relay dispatches, the outcomes, the drain's ABANDONED replies. -/

namespace Sys2Proof.Machine

open Sys2Proof

/-! ### Windows (R146) -/

/-- A field address matches a window (R146). -/
def WindowEntry.admits (w : WindowEntry) (a : Addr) : Bool := w.valid && (a &&& ~~~w.mask) = (w.base &&& ~~~w.mask)

/-- The windows, in order. -/
def allWindows : List (Fin 8) := List.finRange 8

/-- The routing window: the lowest-numbered valid window the address matches (R146). -/
def routingWindow (s : State) (a : Addr) : Option (Fin 8) :=
  (allWindows.filter fun w => (s.relay.windows[w]).admits a).head?

/-- The register a window gives an address: reg_base plus the masked bits in place (R146). -/
def WindowEntry.registerOf (w : WindowEntry) (a : Addr) : Nat := w.regBase + (a &&& w.mask).toNat

/-- The routing window and its register, none when no window matches or the register exceeds 255 (R146). -/
def route (s : State) (a : Addr) : Option (Fin 8 × Nat) :=
  match routingWindow s a with
  | some w =>
    let r := (s.relay.windows[w]).registerOf a
    if r ≤ 255 then some (w, r) else none
  | none => none

/-- A window's access admits an operation (Table 9-1). -/
def Access.admits : Access → RelayOp → Bool
  | .readOnly, .read => true
  | .readOnly, .write => false
  | .writeOnly, .read => false
  | .writeOnly, .write => true
  | .readWrite, _ => true

/-! ### Transactions (R149) -/

/-- The link is IDLE. -/
def linkIdle (s : State) : Bool := s.relay.link.isNone

/-- A transaction begins: the sequence is incremented, wrapping, and the request carries it (R149). -/
def beginTransaction (use : LinkUse) (module : Nat) (op : RelayOp) (register length : Nat) (data : List Byte)
    (s : State) : State :=
  let q := s.relay.seq + 1
  { s with
    relay.seq := q
    relay.link := some
      { use := use
        request := { module := module, op := op, sequence := q, register := register, length := length, data := data }
        timeout := none } }

/-- The QUEUED commands, oldest first: those behind the IN_FLIGHT one (Table 9-3). -/
def queuedCommands (s : State) : List RelayEntry :=
  match s.relay.link with
  | some l => if l.use = .relay then s.relay.queue.tail else s.relay.queue
  | none => s.relay.queue

/-- A grant dispatches the oldest queued command (R154). -/
def dispatchRelay (e : RelayEntry) (s : State) : State :=
  let s1 := beginTransaction .relay e.module e.op e.register e.length e.data s
  { s1 with relay.lastServed := .relay }

/-- A grant dispatches the poll head: a READ of two bytes, and one POLLS event (R51). -/
def dispatchPoll (c : Channel) (s : State) : State :=
  let e := s.probe.table[c]
  let s1 := countEvent .polls (dispatchChannel c s)
  let s2 := beginTransaction (.poll c true) e.module .read e.register 2 [] s1
  { s2 with relay.lastServed := .poll }

/-- A reply to a relayed command, in its reserved slot, with its tag and address (R151). -/
def relayReply (e : RelayEntry) (st : Status) (payload : List Byte) (s : State) : State :=
  placeReply { tag := e.tag, address := e.address, status := st, payload := payload } s

/-- The error fields of an admitted command (R151, R154). -/
def entryFields (e : RelayEntry) : ErrorFields :=
  { tag := some e.tag, address := some e.address, index := some e.window.val }

/-- The dispatch re-check refuses the oldest command: reply GUARDED, then recorded and counted (R154; log 10). -/
def refuseAtDispatch (e : RelayEntry) (s : State) : State :=
  reportRelayEmpty <| countEvent .relayRefused <| recordError .guarded (entryFields e) <|
    relayReply e .guarded [] { s with relay.queue := s.relay.queue.tail }

/-- The party a grant goes to, with the poll head or the oldest command (R153). -/
inductive Grant where
  | nobody
  | poll (c : Channel)
  | relay (e : RelayEntry)
deriving DecidableEq, Repr

/-- The arbiter's choice on an IDLE link (R153). -/
def grantTo (s : State) : Grant :=
  match pollHead s, s.relay.queue with
  | none, [] => .nobody
  | some c, [] => .poll c
  | none, e :: _ => .relay e
  | some c, e :: _ =>
    if isLate s c then .poll c
    else if s.relay.lastServed = .relay then .poll c else .relay e

/-- The arbiter grants while the link is IDLE and work waits: a re-check that refuses dispatches nothing, and the arbiter
grants again (R153, R154). The fuel is one more than the commands held, so it never runs out. -/
def grants : Nat → State → State
  | 0, s => s
  | n + 1, s =>
    if linkIdle s then
      match grantTo s with
      | .nobody => s
      | .poll c => dispatchPoll c s
      | .relay e =>
        if guardHolds s e.window e.op then grants n (refuseAtDispatch e s) else dispatchRelay e s
    else s

/-- The arbiter is asked: the link has become IDLE or work has arrived (R153). -/
def arbitrate (s : State) : State := grants (s.relay.queue.length + 1) s

/-! ### Taking a relayed command (R147, R148) -/

/-- A READ or WRITE as the Frame Engine hands it over. -/
structure Relayed where
  tag : Tag
  op : RelayOp
  address : Addr
  length : Nat
  data : List Byte
deriving DecidableEq, Repr

/-- A refused relayed command: its reply, its error class if the row has one (log 10), and one RELAY_REFUSED event (R147). -/
def refuseRelayed (q : Relayed) (st : Status) (err : Option (ErrorClass × ErrorFields)) (s : State) : State :=
  let s1 := placeReply { tag := q.tag, address := q.address, status := st, payload := [] } s
  let s2 :=
    match err with
    | some (c, f) => recordError c f s1
    | none => s1
  countEvent .relayRefused s2

/-- The fields tag and address (Table 9-2). -/
def tagAddress (q : Relayed) : ErrorFields := { tag := some q.tag, address := some q.address }

/-- The fields tag, address and window (Table 9-2). -/
def tagAddressWindow (q : Relayed) (w : Fin 8) : ErrorFields :=
  { tag := some q.tag, address := some q.address, index := some w.val }

/-- The queue entry of an admitted command (Table 9-3). -/
def relayEntry (s : State) (q : Relayed) (w : Fin 8) (register : Nat) : RelayEntry :=
  { tag := q.tag, op := q.op, address := q.address, window := w, module := (s.relay.windows[w]).module
    register := register, length := q.length, data := q.data }

/-- A command is admitted as the newest entry, and the arbiter is asked (R148). -/
def admitRelay (q : Relayed) (w : Fin 8) (register : Nat) (s : State) : State :=
  arbitrate { s with relay.queue := s.relay.queue ++ [relayEntry s q w register] }

/-- The take checks of Table 9-2, in order (R147). -/
def takeRelayed (q : Relayed) (s : State) : State :=
  if s.hpc.host = .drain then refuseRelayed q .state none s
  else
    match route s q.address with
    | none => refuseRelayed q .noTarget (some (.noTarget, tagAddress q)) s
    | some (w, register) =>
      if !(s.relay.windows[w]).access.admits q.op then
        refuseRelayed q .denied (some (.denied, tagAddressWindow q w)) s
      else if guardHolds s w q.op then refuseRelayed q .guarded (some (.guarded, tagAddressWindow q w)) s
      else if s.relay.queue.any fun e => e.tag = q.tag then
        refuseRelayed q .tagBusy (some (.tagBusy, tagAddress q)) s
      else if Config.relayEntries ≤ s.relay.queue.length then
        refuseRelayed q .queueFull (some (.queueFull, tagAddress q)) s
      else admitRelay q w register s

/-- READ (R147); a length byte outside 1 to 16 makes the frame malformed (R161). -/
def execRead (tag : Tag) (address : Addr) (length : Byte) (s : State) : Result := upon s fun s =>
  if readLengthFits length then
    finish (takeFrame tag (takeRelayed { tag := tag, op := .read, address := address, length := length.toNat, data := [] }) s)
  else finish (takeMalformed tag 0x01 address s)

/-- WRITE (R147); a payload that is not 1 to 16 bytes makes the frame malformed (R161). -/
def execWrite (tag : Tag) (address : Addr) (data : List Byte) (s : State) : Result := upon s fun s =>
  if writeLengthFits data then
    finish (takeFrame tag
      (takeRelayed { tag := tag, op := .write, address := address, length := data.length, data := data }) s)
  else finish (takeMalformed tag 0x02 address s)

/-! ### C-port replies (R149 to R152) -/

/-- What the bytes of a C-port reply are (Table 10-7, R149): not complete, complete with a failing check, or complete. -/
inductive FieldReply where
  | incomplete
  | bad
  | good (module : Nat) (sequence : Byte) (ack : Bool) (data : List Byte)
deriving DecidableEq, Repr

/-- The reply the received bytes form (R149): a count above 16 completes it at the count byte and fails its check; an answer
byte that is neither ACK nor NAK fails its check at the end its count gives; bytes past the end complete nothing (log 22). -/
def parseReply (b : List Byte) : FieldReply :=
  if b.length < 4 then .incomplete
  else
    let n := u8 b 3
    if 16 < n then .bad
    else if b.length < 6 + n then .incomplete
    else if u8 b 2 ≠ 1 ∧ u8 b 2 ≠ 2 then .bad
    else if crc16 (b.take (4 + n)) ≠ word16 b (4 + n) then .bad
    else .good (u8 b 0) (b.getD 1 0) (u8 b 2 = 1) ((b.drop 4).take n)

/-- The outcome of a relayed transaction: status, payload and error class (Table 9-4). -/
def relayOutcome (e : RelayEntry) : FieldResult → Status × List Byte × Option ErrorClass
  | .ack data =>
    match e.op with
    | .read => if data.length = e.length then (.done, data, none) else (.fieldCheck, [], some .fieldCheck)
    | .write => if data = [] then (.done, [], none) else (.fieldCheck, [], some .fieldCheck)
  | .nak => (.fieldRefused, [], some .fieldRefused)
  | .checkFailed => (.fieldCheck, [], some .fieldCheck)
  | .timeout => (.fieldTimeout, [], some .fieldTimeout)

/-- The IN_FLIGHT command is answered and leaves the relay, its error then recorded (R151; log 10). -/
def answerRelayed (r : FieldResult) (s : State) : State :=
  match s.relay.queue with
  | e :: rest =>
    let o := relayOutcome e r
    let s1 := relayReply e o.1 o.2.1 { s with relay.queue := rest }
    let s2 :=
      match o.2.2 with
      | some c => recordError c (entryFields e) s1
      | none => countEvent .relayDone s1
    reportRelayEmpty s2
  | [] => s

/-- The link becomes IDLE. -/
def idleLink (s : State) : State := { s with relay.link := none }

/-- A late reply is discarded and counted (R152). -/
def lateReply (s : State) : State := countEvent .lateReply s

/-- The transaction in flight ends with a result (R150, R151, R152), and the arbiter is asked. For a poll, `resultFirst`
says that the Probe Scheduler takes the result before the arbiter's grant; either may be taken first (R150, log 9). -/
def endTransaction (use : LinkUse) (r : FieldResult) (resultFirst : Bool) (s : State) : State :=
  match use with
  | .relay => arbitrate (answerRelayed r (idleLink s))
  | .poll c owned =>
    if resultFirst then arbitrate (takeResult c owned r (idleLink s))
    else arbitrate (takeResult c owned r (arbitrate (idleLink s)))
  | .orphan =>
    match r with
    | .timeout => arbitrate (idleLink s)
    | .ack _ | .nak | .checkFailed => arbitrate (lateReply (idleLink s))

/-- A complete reply arrives (R149, R152): taken for the transaction in flight when its check fails or it names the
request's module and sequence, and late otherwise. Before the request's last byte has been sent a reply is taken in the same way,
which R149 leaves open (log 37, DESIGN CHOICE). -/
def takeReply (f : FieldReply) (resultFirst : Bool) (s : State) : State :=
  match f, s.relay.link with
  | .incomplete, _ => s
  | .bad, some l => endTransaction l.use .checkFailed resultFirst s
  | .good m q ack data, some l =>
    if m = l.request.module ∧ q = l.request.sequence then
      endTransaction l.use (if ack then .ack data else .nak) resultFirst s
    else lateReply s
  | _, none => lateReply s

/-- FIELD_REPLY (R149). Without supply nothing is received. -/
def execFieldReply (bytes : List Byte) (resultFirst : Bool) (s : State) : Result := upon s fun s =>
  if s.power = .off then finish s
  else finish (takeReply (parseReply bytes) resultFirst { s with relay.partialReply := [] })

/-- FIELD_TIMEOUT_EXPIRY (R149): the timeout runs once the request has been sent. -/
def execFieldTimeoutExpiry (resultFirst : Bool) (s : State) : Result := upon s fun s =>
  match s.relay.link with
  | some l =>
    match l.timeout with
    | some t => finish (endTransaction l.use .timeout resultFirst (reach t.deadline s))
    | none => finish s
  | none => finish s

/-- C_PORT_REQUEST_END (R149): the field timeout starts with the duration in the poll record in force (R47). -/
def execCPortRequestEnd (s : State) : Result := upon s fun s =>
  match s.relay.link with
  | some l =>
    match l.timeout with
    | none => finish { s with relay.link := some { l with timeout := some (startTimer s (ms s.probe.poll.fieldTimeout)) } }
    | some _ => finish s
  | none => finish s

/-- C_PORT_REPLY_GAP (R149): a reply in progress is dropped with nothing recorded. -/
def execCPortReplyGap (s : State) : Result := upon s fun s => finish { s with relay.partialReply := [] }

/-- DUE_TIME_REACHED (R49): a waiting channel joins the poll queue, one in flight becomes IN_FLIGHT_DUE. -/
def execDueTimeReached (c : Channel) (s : State) : Result := upon s fun s =>
  match s.probe.chans[c].poll, s.probe.chans[c].due with
  | .waiting, some t => finish (arbitrate (joinQueue c (reach t s)))
  | .inFlight, some t =>
    let s1 := reach t s
    finish (setChan c { s1.probe.chans[c] with poll := .inFlightDue } s1)
  | _, _ => finish s

/-! ### Drain expiry (R19, R156) -/

/-- The drain timer expires: every command the relay holds is answered ABANDONED, oldest first, an in-flight transaction
becomes an ORPHAN, and rail-off begins (R19, R156). -/
def drainExpires (s : State) : State :=
  let s1 := s.relay.queue.foldl (fun s e => relayReply e .abandoned [] s) s
  beginRailOff (abandonRelay s1)

/-- DRAIN_TIMER_EXPIRY, in DRAIN (R19). -/
def execDrainTimerExpiry (s : State) : Result := upon s fun s =>
  onExpiry (if s.hpc.host = .drain then s.hpc.drainTimer else none) drainExpires s

/-! ### Loading -/

/-- A window index and its entry. -/
structure WindowLoad where
  window : Fin 8
  entry : WindowEntry
deriving DecidableEq, Repr

/-- LOAD_WINDOW at its owner (R145): used by the take checks after it, not by the commands held. -/
def applyLoadWindow (l : WindowLoad) (s : State) : State × Answer :=
  ({ s with relay.windows := vset s.relay.windows l.window l.entry }, .done)

/-- LOAD_CHANNEL at its owner (R46); the arbiter is asked for a poll that joins the queue. A missing episode that the load
begins is taken before the arbiter's grant on an idle link; R46 puts both at the load (log 34, DESIGN CHOICE). All of it,
the notices of the episode too, comes before the DONE reply, of which R45 and R163 give no one order (log 38, DESIGN CHOICE).
-/
def applyLoadChannel (l : ChannelLoad) (s : State) : State × Answer := (arbitrate (reloadChannel l s), .done)

end Sys2Proof.Machine
end

