-- ==== Sys2Proof/Machine/Keymap.lean ====
section
/-! DEFINITION. The Keymap Unit (chapter 8): resolution, presses and releases, pushes, the termination check, the layer tick,
the clearing of the stack, its reset. -/

namespace Sys2Proof.Machine

open Sys2Proof

/-- The KU's state of a position is replaced. -/
def setKey (p : Position) (x : KeyPosition) (s : State) : State :=
  { s with keymap.positions := vset s.keymap.positions p x }

/-- The layer stack is replaced. -/
def setStack (l : List StackEntry) (s : State) : State := { s with keymap.stack := l }

/-! ### Resolution (R131) -/

/-- The layers a resolution looks at: the stack's from the top down, then layer 0 (R131). -/
def layerWalk (s : State) : List (Fin 4) := s.keymap.stack.map StackEntry.layer ++ [0]

/-- The first entry of p on a walk that is not TRANSPARENT, with its layer; the walk's end resolves as NONE (R131). -/
def walkEntry (s : State) (p : Position) : List (Fin 4) → KeyEntry × Fin 4
  | [] => (.none, 0)
  | l :: rest =>
    match s.keymap.entries[keySlot l p] with
    | .transparent => walkEntry s p rest
    | e => (e, l)

/-- The entry a press for p resolves to, and the layer of resolution (R131). -/
def resolveKey (s : State) (p : Position) : KeyEntry × Fin 4 := walkEntry s p (layerWalk s)

/-! ### Stack (R135, R138, R139) -/

/-- The entry a push adds (R135). -/
def pushedEntry (p : Position) (layer : Fin 4) (termination : Fin 32) (count : Nat) : StackEntry where
  layer := layer
  position := p
  termination := termination
  counted := decide (0 < count)
  count := count
  idle := 0
  held := true

/-- A push: one entry at the top, or LAYER_OVERFLOW when the stack holds 6 (R135). -/
def pushLayer (p : Position) (layer : Fin 4) (termination : Fin 32) (count : Nat) (s : State) : State :=
  if Config.stackEntries ≤ s.keymap.stack.length then recordError .layerOverflow { index := some p.val } s
  else setStack (pushedEntry p layer termination count :: s.keymap.stack) s

/-- The termination check with fuel for one pop per stack entry (R138). It asks for HOLD_KEY as for every other code, as R135
and R138 give it; R69's closing sentence says otherwise of that one code. The stack is chapter 8's (Table 0-2), and section
0.3 has every rule concerning a block's state stand in its owning chapter (log 36, DEDUCED). -/
def terminate : Nat → State → State
  | 0, s => s
  | n + 1, s =>
    match s.keymap.stack with
    | top :: rest => if condition s top.termination then terminate n (setStack rest s) else s
    | [] => s

/-- The termination check: tops are popped while their codes are true (R138). -/
def terminationCheck (s : State) : State := terminate s.keymap.stack.length s

/-- Every idle time becomes 0 (R132). -/
def resetIdle (s : State) : State := setStack (s.keymap.stack.map fun e => { e with idle := 0 }) s

/-- Every idle time advances by 100 ms, saturating at 60,000 ms (R137). -/
def ageStack (s : State) : State := setStack (s.keymap.stack.map fun e => { e with idle := min (e.idle + 100) 60000 }) s

/-- The held flag of every entry pushed by p is cleared (R133 step 1). -/
def releaseHeld (p : Position) (s : State) : State :=
  setStack (s.keymap.stack.map fun e => if e.position = p then { e with held := false } else e) s

/-! ### Key notices (R132, R133) -/

/-- A KEY notice is generated: it is handed to the Frame Engine and counted (R132). -/
def keyNotice (p : Position) (code : Nat) (d : Direction) (layer : Fin 4) (forced : Bool) (s : State) : State :=
  countEvent .keyNotices (handNotice (.key p code d layer forced) s)

/-- The counted top entry with a count above 0 loses one (R132). -/
def countTop (s : State) : State :=
  match s.keymap.stack with
  | top :: rest => if top.counted && 0 < top.count then setStack ({ top with count := top.count - 1 } :: rest) s else s
  | [] => s

/-- A PLAIN press (R132). -/
def pressPlain (p : Position) (code : Nat) (layer : Fin 4) (s : State) : State :=
  let s1 := setKey p { s.keymap.positions[p] with code := some code } s
  if s1.hpc.host.keysReported then
    let s2 := keyNotice p code .press layer false s1
    countTop (setKey p { s2.keymap.positions[p] with reported := true } s2)
  else countEvent .keyDiscarded s1

/-- A LAYER press: the push at once with an arm delay of 0, the arm otherwise (R134). -/
def pressLayer (p : Position) (layer : Fin 4) (termination : Fin 32) (count delay : Nat) (s : State) : State :=
  if delay = 0 then pushLayer p layer termination count s
  else
    let a : Arm := { timer := startTimer s (ms delay), layer := layer, termination := termination, count := count }
    setKey p { s.keymap.positions[p] with arm := some a } s

/-! ### Service functions (R140) -/

/-- A service function at the Condition Unit (R71); a request to the HPC changes nothing there. -/
def serviceFlags (f : ServiceFunction) (s : State) : State :=
  match f with
  | .setFlag n => setUserFlag n s
  | .clearFlag n => clearUserFlag n s
  | .wake | .ackLockout | .requestRestart | .requestShutdown => s

/-- A service function's request at the Host Power Controller (Table 8-7); a flag function requests nothing there. -/
def serviceRequest (f : ServiceFunction) (s : State) : State :=
  match f with
  | .wake => wakeRequest s
  | .ackLockout => ackLockout s
  | .requestRestart => requestRestart s
  | .requestShutdown => requestShutdown s
  | .setFlag _ | .clearFlag _ => s

/-- The function of a SERVICE entry whose condition is true (R140). -/
def grantedService (e : KeyEntry) (s : State) : Option ServiceFunction :=
  match e with
  | .service f c => if condition s c then some f else none
  | _ => none

/-! ### Presses and releases (R132, R133) -/

/-- The press action of the resolved entry, a service request apart (R132 step 3). -/
def pressAction (p : Position) (e : KeyEntry) (layer : Fin 4) (s : State) : State :=
  match e with
  | .plain code => pressPlain p code layer s
  | .layer l t count delay => pressLayer p l t count delay s
  | .clearOne => setStack s.keymap.stack.tail s
  | .clearAll => setStack [] s
  | .service f c => if condition s c then serviceFlags f s else s
  | .none | .transparent => s

/-- The press's resolution is recorded and its reported mark becomes 0 (R132 step 2). -/
def recordResolution (p : Position) (r : KeyEntry × Fin 4) (s : State) : State :=
  setKey p { s.keymap.positions[p] with resolution := some (r.1.kind, r.2), reported := false } s

/-- The termination check of a press with its request to the Host Power Controller, in either order (R140, log 9). -/
def checkWithRequest (request : Option ServiceFunction) (requestFirst : Bool) (s : State) : State :=
  match request with
  | some f =>
    if requestFirst then terminationCheck (serviceRequest f s) else serviceRequest f (terminationCheck s)
  | none => terminationCheck s

/-- The KU takes a press for position p (R132). -/
def takePress (p : Position) (requestFirst : Bool) (s : State) : State :=
  let s1 := resetIdle s
  let r := resolveKey s1 p
  let s2 := recordResolution p r s1
  checkWithRequest (grantedService r.1 s2) requestFirst (pressAction p r.1 r.2 s2)

/-- The release action, by the press resolution (R133 step 2). -/
def releaseAction (p : Position) (forced : Bool) (s : State) : State :=
  let x := s.keymap.positions[p]
  match x.resolution with
  | some (.plain, layer) =>
    match x.reported && s.hpc.host.keysReported, x.code with
    | true, some code => keyNotice p code .release layer forced s
    | _, _ => countEvent .keyDiscarded s
  | some (.layer, _) => setKey p { x with arm := none } s
  | _ => s

/-- The KU takes a release, or with `forced` a forced release, for position p (R133). -/
def takeRelease (p : Position) (forced : Bool) (s : State) : State :=
  let s1 := releaseAction p forced (releaseHeld p s)
  terminationCheck
    (setKey p { s1.keymap.positions[p] with resolution := none, code := none, reported := false } s1)

/-! ### Commands -/

/-- The arm delay of p expires: the push of the captured fields, and no termination check (R134, R135). -/
def armExpires (p : Position) (a : Arm) (s : State) : State :=
  pushLayer p a.layer a.termination a.count (setKey p { s.keymap.positions[p] with arm := none } s)

/-- ARM_DELAY_EXPIRY (R134). -/
def execArmDelayExpiry (p : Position) (s : State) : Result := upon s fun s =>
  match s.keymap.positions[p].arm with
  | some a => finish (armExpires p a (reach a.timer.deadline s))
  | none => finish s

/-- LAYER_TICK (R137). -/
def execLayerTick (s : State) : Result := upon s fun s =>
  match s.keymap.nextTick with
  | some t =>
    finish (terminationCheck (ageStack { reach t s with keymap.nextTick := some (t + Config.layerTick) }))
  | none => finish s

/-- CLEAR_LAYERS at its owner (R139). -/
def applyClearLayers (s : State) : State × Answer :=
  (setStack [] s, { status := .done, payload := byte1 s.keymap.stack.length })

/-- CLEAR_LAYERS (R139). -/
def execClearLayers (tag : Tag) (s : State) : Result := upon s fun s => supervisorOp tag 0x32 applyClearLayers s

/-- Step 2 of SUPERVISOR_RESET at the KU: the stack emptied, every arm cancelled, every position's state cleared (R143). -/
def clearKeymap (s : State) : State :=
  { s with
    keymap.stack := []
    keymap.positions := vmap (fun _ => KeyPosition.initial) s.keymap.positions }

/-- A layer, a position and the entry that goes there. -/
structure KeymapLoad where
  layer : Fin 4
  position : Position
  entry : KeyEntry
deriving DecidableEq, Repr

/-- LOAD_KEYMAP's ENTRY form at its owner (R128, R129). -/
def applyLoadKeymapEntry (l : KeymapLoad) (s : State) : State × Answer :=
  ({ s with keymap.entries := vset s.keymap.entries (keySlot l.layer l.position) l.entry }, .done)

/-- LOAD_KEYMAP's SETTINGS form at its owner (R128, R129). -/
def applyLoadKeymapSettings (timeout : Nat) (s : State) : State × Answer :=
  ({ s with keymap.layerTimeout := timeout }, .done)

end Sys2Proof.Machine
end

