-- ==== Sys2Proof/Machine/Keypad.lean ====
section
/-! DEFINITION. The Keypad Scanner (chapter 7): the scans, the position states, ghost masking, stuck keys, the loading of the
keypad record, its reset. -/

namespace Sys2Proof.Machine

open Sys2Proof

/-- The scan state of a position is replaced. -/
def setPad (p : Position) (x : PadPosition) (s : State) : State :=
  { s with pad.positions := vset s.pad.positions p x }

/-- The positions in ascending order. -/
def allPositions : List Position := List.finRange 64

/-! ### The closed set and the rectangle test (section 7.5) -/

/-- Position (r, c) (section 0.5.5). -/
def positionAt (r c : Fin 8) : Position := ⟨r.val * 8 + c.val, by omega⟩

/-- The row of a position. -/
def rowOf (p : Position) : Fin 8 := ⟨p.val / 8, by omega⟩

/-- The column of a position. -/
def columnOf (p : Position) : Fin 8 := ⟨p.val % 8, by omega⟩

/-- A position is in the closed set (Table 7-2). -/
def inClosedSet (s : State) (p : Position) : Bool := s.pad.positions[p].state.inClosedSet

/-- Position p completes a rectangle: another row and another column whose three other corners are in the closed set
(section 7.5). -/
def completesRectangle (s : State) (p : Position) : Bool :=
  (List.finRange 8).any fun r =>
    r != rowOf p && inClosedSet s (positionAt r (columnOf p)) &&
      (List.finRange 8).any fun c =>
        c != columnOf p && inClosedSet s (positionAt (rowOf p) c) && inClosedSet s (positionAt r c)

/-! ### One position at a scan completion (R118 to R123) -/

/-- A press is accepted at p: MASKED when it completes a rectangle under ghost masking, CLOSED with a press otherwise (R118,
R120). -/
def acceptPress (p : Position) (requestFirst : Bool) (s : State) : State :=
  let x := { s.pad.positions[p] with count := 0, closedSince := some s.now }
  if s.pad.record.ghostMasking && completesRectangle s p then setPad p { x with state := .masked } s
  else takePress p requestFirst (setPad p { x with state := .closed } s)

/-- A release is accepted at p (R119): OPEN, and a release handed to the KU unless the previous stable state is MASKED. -/
def acceptRelease (p : Position) (previous : StableState) (s : State) : State :=
  let s1 := setPad p PadPosition.initial s
  match previous with
  | .closed => takeRelease p false s1
  | .masked => s1

/-- A MASKED position that no longer completes a rectangle becomes CLOSED with a press (R121). -/
def unmaskIfFree (p : Position) (requestFirst : Bool) (s : State) : State :=
  if s.pad.positions[p].state = .masked && !completesRectangle s p then
    takePress p requestFirst (setPad p { s.pad.positions[p] with state := .closed } s)
  else s

/-- The stuck time in force has been reached since p's closed-since (R122). -/
def stuckReached (s : State) (p : Position) : Bool :=
  match s.pad.positions[p].closedSince with
  | some t => s.pad.record.stuckTime ≠ 0 && decide (sec s.pad.record.stuckTime ≤ s.now - t)
  | none => false

/-- The stuck test of a position that reads closed (R122). -/
def stuckTest (p : Position) (s : State) : State :=
  if stuckReached s p then
    let x := s.pad.positions[p]
    let s1 := setPad p { x with state := .stuck, count := 0 } s
    if x.state = .closed then takeRelease p true s1 else s1
  else s

/-- The debounce count N has been reached. -/
def countReached (s : State) (count : Nat) : Bool := s.pad.count ≤ count

/-- A count with one more agreeing scan, saturating at 63 (R117). -/
def bump (x : PadPosition) : Nat := min (x.count + 1) 63

/-- OPEN or CLOSING reads closed with count `n` (R118). -/
def stepClosing (p : Position) (n : Nat) (requestFirst : Bool) (s : State) : State :=
  let x := s.pad.positions[p]
  if countReached s n then acceptPress p requestFirst s else setPad p { x with state := .closing, count := n } s

/-- CLOSED, MASKED or OPENING reads open with count `n` and a previous stable state (R119); true when the position has left
the closed set. -/
def stepOpening (p : Position) (n : Nat) (previous : StableState) (s : State) : State × Bool :=
  let x := s.pad.positions[p]
  if countReached s n then (acceptRelease p previous s, true)
  else (setPad p { x with state := .opening, count := n, previous := some previous } s, false)

/-- An OPENING position reads closed: back to its previous stable state, with the test of a return to MASKED (R119, R121). -/
def returnStable (p : Position) (requestFirst : Bool) (s : State) : State :=
  let x := s.pad.positions[p]
  match x.previous with
  | some .masked => unmaskIfFree p requestFirst (setPad p { x with state := .masked, count := 0 } s)
  | _ => setPad p { x with state := .closed, count := 0 } s

/-- A STUCK position reads open (R123); true when it has left the closed set. -/
def stepStuck (p : Position) (s : State) : State × Bool :=
  let x := s.pad.positions[p]
  if countReached s (bump x) then (setPad p PadPosition.initial s, true)
  else (setPad p { x with count := bump x } s, false)

/-- One position acts on its reading (R118, R119, R122, R123); true when it has left the closed set. -/
def scanPosition (p : Position) (closed requestFirst : Bool) (s : State) : State × Bool :=
  let x := s.pad.positions[p]
  match x.state, closed with
  | .open, false => (s, false)
  | .open, true => (stepClosing p 1 requestFirst s, false)
  | .closing, true => (stepClosing p (bump x) requestFirst s, false)
  | .closing, false => (setPad p { x with state := .open, count := 0 } s, false)
  | .closed, true => (stuckTest p s, false)
  | .masked, true => (stuckTest p s, false)
  | .closed, false => stepOpening p 1 .closed s
  | .masked, false => stepOpening p 1 .masked s
  | .opening, false => stepOpening p (bump x) (x.previous.getD .closed) s
  | .opening, true => (returnStable p requestFirst s, false)
  | .stuck, false => stepStuck p s
  | .stuck, true => (setPad p { x with count := 0 } s, false)

/-! ### A scan (R114, R117, R121) -/

/-- One position of a scan, with what has left the closed set so far. -/
def scanVisit (readings requestFirst : BitVec 64) (acc : State × Bool) (p : Position) : State × Bool :=
  let r := scanPosition p (readings.getLsbD p.val) (requestFirst.getLsbD p.val) acc.1
  (r.1, acc.2 || r.2)

/-- The unmask check (R121). -/
def unmaskCheck (requestFirst : BitVec 64) (s : State) : State :=
  allPositions.foldl (fun s p => unmaskIfFree p (requestFirst.getLsbD p.val) s) s

/-- A scan completion: the positions in ascending order, then the unmask check if one left the closed set (R117). -/
def processScan (readings requestFirst : BitVec 64) (s : State) : State :=
  let r := allPositions.foldl (scanVisit readings requestFirst) (s, false)
  if r.2 then unmaskCheck requestFirst r.1 else r.1

/-- A scan begins at moment `t`: the next start is one scan period later (R114). -/
def beginScan (t : Nat) (s : State) : State :=
  { s with pad.nextScan := some (t + ms s.pad.record.scanPeriod), pad.scanning := true }

/-- SCAN_START (R114): no scan starts before the image load completes or while one is in progress (log 17). -/
def execScanStart (s : State) : Result := upon s fun s =>
  match s.pad.nextScan with
  | some t => if s.pad.scanning then finish s else finish (beginScan t (reach t s))
  | none => finish s

/-- SCAN_COMPLETE (R117). -/
def execScanComplete (readings requestFirst : BitVec 64) (s : State) : Result := upon s fun s =>
  match s.pad.nextScan with
  | some _ => finish (processScan readings requestFirst { s with pad.scanning := false })
  | none => finish s

/-! ### Loading and reset (R113, R125, R126) -/

/-- Ghost masking goes from 1 to 0 for one position (R125). -/
def unmaskAtLoad (requestFirst : BitVec 64) (s : State) (p : Position) : State :=
  let x := s.pad.positions[p]
  let rf := requestFirst.getLsbD p.val
  match x.state, x.previous with
  | .masked, _ => takePress p rf (setPad p { x with state := .closed } s)
  | .opening, some .masked => takePress p rf (setPad p { x with previous := some .closed } s)
  | _, _ => s

/-- LOAD_KEYPAD at its owner (R113, R125). -/
def applyLoadKeypad (requestFirst : BitVec 64) (r : KeypadRecord) (s : State) : State × Answer :=
  let s1 := recomputeDebounce { s with pad.record := r }
  let s2 :=
    if s.pad.record.ghostMasking && !r.ghostMasking then allPositions.foldl (unmaskAtLoad requestFirst) s1 else s1
  (s2, { status := .done, payload := byte1 s2.pad.count })

/-- A position hands a forced release at SUPERVISOR_RESET (R126 step 1). -/
def releasedAtReset (x : PadPosition) : Bool := x.state = .closed || (x.state = .opening && x.previous = some .closed)

/-- SUPERVISOR_RESET at the scanner and the Keymap Unit: the forced releases in order, the positions to OPEN, then the KU's
own clearing (R126, R143). -/
def resetKeys (s : State) : State :=
  let s1 := (allPositions.filter fun p => releasedAtReset s.pad.positions[p]).foldl (fun s p => takeRelease p true s) s
  clearKeymap { s1 with pad.positions := vmap (fun _ => PadPosition.initial) s1.pad.positions }

end Sys2Proof.Machine
end

