-- ==== Sys2Proof/Machine/Operands.lean ====
section
/-! DEFINITION. The operands the LOAD operations carry in their payloads (R159): the reading of each field and each record,
with every range the chapters give, and the bytes that spell a record. A reader answers none where a field has no value in
its range, which its owner refuses with BAD_REQUEST. -/

namespace Sys2Proof.Machine

open Sys2Proof

/-! ### Fields -/

/-- A field and what follows it in the payload. -/
abbrev Field (α : Type) := Option (α × List Byte)

/-- A number of one byte. -/
def take1 : List Byte → Field Nat
  | a :: p => some (a.toNat, p)
  | [] => none

/-- An unsigned number of two bytes, more significant byte first. -/
def take2 : List Byte → Field Nat
  | a :: b :: p => some (256 * a.toNat + b.toNat, p)
  | _ => none

/-- A number of two bytes in two's complement. -/
def takeInt2 (p : List Byte) : Field Int :=
  match take2 p with
  | some (n, p) => some (if n < 32768 then (n : Int) else (n : Int) - 65536, p)
  | none => none

/-- A number of four bytes in two's complement. -/
def takeInt4 (p : List Byte) : Field Int :=
  match take2 p with
  | some (h, p) =>
    match take2 p with
    | some (l, p) =>
      let n := 65536 * h + l
      some (if n < 2147483648 then (n : Int) else (n : Int) - 4294967296, p)
    | none => none
  | none => none

/-- A 16-bit word. -/
def takeWord (p : List Byte) : Field Word :=
  match take2 p with
  | some (n, p) => some (BitVec.ofNat 16 n, p)
  | none => none

/-- A flag: 0 or 1. -/
def takeBool : List Byte → Field Bool
  | a :: p => if a = 0 then some (false, p) else if a = 1 then some (true, p) else none
  | [] => none

/-- An index or a code of one byte below `n`. -/
def takeFin (n : Nat) : List Byte → Field (Fin n)
  | a :: p => if h : a.toNat < n then some (⟨a.toNat, h⟩, p) else none
  | [] => none

/-- A named value of one byte: its code is its place in the list (R159). -/
def takeNamed {α : Type} (values : List α) : List Byte → Field α
  | a :: p => (values[a.toNat]?).map fun v => (v, p)
  | [] => none

/-- The code of a named value: its place in the list. -/
def codeOf {α : Type} [DecidableEq α] (values : List α) (v : α) : Nat := values.findIdx (· = v)

/-- A flag's byte. -/
def boolByte (b : Bool) : List Byte := byte1 b.toNat

/-- A byte of flags, the first in bit 0 (R159). -/
def flagsByte (bits : List Bool) : List Byte := byte1 (bits.foldr (fun b n => 2 * n + b.toNat) 0)

/-- A payload completed with bytes of 0 up to its length (R159). -/
def padTo (n : Nat) (p : List Byte) : List Byte := p ++ List.replicate (n - p.length) 0

/-- A record in its range, or none. -/
def checked {α : Type} (inRange : α → Bool) (r : α) : Option α := if inRange r then some r else none

/-! ### Chapter 1: sequence record (Table 1-2) -/

/-- A rail mask: one byte, rail 1 in bit 0; a bit beyond rail 3 is outside the set (log 21). -/
def takeRails : List Byte → Field (Vector Bool 3)
  | a :: p => if a.toNat < 8 then some (#v[a.getLsbD 0, a.getLsbD 1, a.getLsbD 2], p) else none
  | [] => none

/-- Three two-byte numbers, for rails 1, 2 and 3. -/
def takeRailTimes (p : List Byte) : Option (Vector Nat 3 × List Byte) := do
  let (a, p) ← take2 p
  let (b, p) ← take2 p
  let (c, p) ← take2 p
  some (#v[a, b, c], p)

/-- LOAD_SEQUENCE's payload (R3). -/
def readSequence (p : List Byte) : Option SequenceRecord := do
  let (railMask, p) ← takeRails p
  let (pgTimeout, p) ← takeRailTimes p
  let (settle, p) ← takeRailTimes p
  let (soakTime, p) ← take2 p
  let (preheatTimeout, p) ← take2 p
  let (gateHysteresis, p) ← take1 p
  let (startWithoutProbe, p) ← takeBool p
  let (autoStart, p) ← takeBool p
  let (drainTimeout, p) ← take2 p
  let (offSettle, _) ← take2 p
  checked SequenceRecord.inRange
    { railMask, pgTimeout, settle, soakTime, preheatTimeout, gateHysteresis, startWithoutProbe, autoStart
      drainTimeout, offSettle }

/-- The bytes of three times. -/
def railTimeBytes (v : Vector Nat 3) : List Byte := byte2 v[0] ++ byte2 v[1] ++ byte2 v[2]

/-- The bytes of a sequence record. -/
def sequenceBytes (r : SequenceRecord) : List Byte :=
  flagsByte [r.railMask[0], r.railMask[1], r.railMask[2]] ++ railTimeBytes r.pgTimeout ++ railTimeBytes r.settle
  ++ byte2 r.soakTime ++ byte2 r.preheatTimeout ++ byte1 r.gateHysteresis ++ boolByte r.startWithoutProbe
  ++ boolByte r.autoStart ++ byte2 r.drainTimeout ++ byte2 r.offSettle

/-! ### Chapter 6: ladder record (Table 6-2) -/

/-- The lockout policies in the order of Table 6-2. -/
def lockoutPolicies : List LockoutPolicy := [.waitService, .autoRetry]

/-- LOAD_LADDER's payload (R93). -/
def readLadder (p : List Byte) : Option LadderRecord := do
  let (period, p) ← take2 p
  let (earlyWindow, p) ← take2 p
  let (bootWindow, p) ← take2 p
  let (grace, p) ← take2 p
  let (resetPulse, p) ← take2 p
  let (maxSoft, p) ← take1 p
  let (powerOffTime, p) ← take1 p
  let (hardLimit, p) ← take1 p
  let (hardWindow, p) ← take2 p
  let (stableTime, p) ← take1 p
  let (policy, p) ← takeNamed lockoutPolicies p
  let (retry, _) ← take2 p
  checked LadderRecord.inRange
    { period, earlyWindow, bootWindow, grace, resetPulse, maxSoft, powerOffTime, hardLimit, hardWindow, stableTime
      policy, retry }

/-- The bytes of a ladder record. -/
def ladderBytes (r : LadderRecord) : List Byte :=
  byte2 r.period ++ byte2 r.earlyWindow ++ byte2 r.bootWindow ++ byte2 r.grace ++ byte2 r.resetPulse ++ byte1 r.maxSoft
  ++ byte1 r.powerOffTime ++ byte1 r.hardLimit ++ byte2 r.hardWindow ++ byte1 r.stableTime
  ++ byte1 (codeOf lockoutPolicies r.policy) ++ byte2 r.retry

/-! ### Chapter 2: zone and budget records (Tables 2-1 and 2-2) -/

/-- A zone number with its record. -/
structure ZoneLoad where
  zone : Zone
  record : ZoneRecord
deriving DecidableEq, Repr

/-- LOAD_ZONE's payload (R23); the priorities of the other zones are its owner's check. -/
def readZone (p : List Byte) : Option ZoneLoad := do
  let (zone, p) ← takeFin 4 p
  let (enable, p) ← takeBool p
  let (channel, p) ← takeFin 16 p
  let (setpoint, p) ← takeInt2 p
  let (band, p) ← take2 p
  let (coldThreshold, p) ← takeInt2 p
  let (current, p) ← take2 p
  let (priority, p) ← takeFin 4 p
  let (gateMask, p) ← takeBool p
  let (gateTemp, p) ← takeInt2 p
  let (minStart, p) ← takeInt2 p
  let (keepWarm, p) ← takeBool p
  let (keepWarmSetpoint, p) ← takeInt2 p
  let (holdPeriods, p) ← take1 p
  let (fallback, p) ← take1 p
  let (maxOn, p) ← take1 p
  let (restPeriods, p) ← take1 p
  let (restDuty, _) ← take1 p
  (checked ZoneRecord.inRange
    { enable, channel, setpoint, band, coldThreshold, current, priority, gateMask, gateTemp, minStart, keepWarm
      keepWarmSetpoint, holdPeriods, fallback, maxOn, restPeriods, restDuty }).map fun r => { zone := zone, record := r }

/-- The bytes of a zone record. -/
def zoneRecordBytes (r : ZoneRecord) : List Byte :=
  boolByte r.enable ++ byte1 r.channel.val ++ int2 r.setpoint ++ byte2 r.band ++ int2 r.coldThreshold ++ byte2 r.current
  ++ byte1 r.priority.val ++ boolByte r.gateMask ++ int2 r.gateTemp ++ int2 r.minStart ++ boolByte r.keepWarm
  ++ int2 r.keepWarmSetpoint ++ byte1 r.holdPeriods ++ byte1 r.fallback ++ byte1 r.maxOn ++ byte1 r.restPeriods
  ++ byte1 r.restDuty

/-- The payload of LOAD_ZONE. -/
def zoneBytes (l : ZoneLoad) : List Byte := byte1 l.zone.val ++ zoneRecordBytes l.record

/-- LOAD_BUDGET's payload (R26). -/
def readBudget (p : List Byte) : Option BudgetRecord := do
  let (standby, p) ← take2 p
  let (preheat, p) ← take2 p
  let (inrush, p) ← take2 p
  let (run, _) ← take2 p
  checked BudgetRecord.inRange { standby, preheat, inrush, run }

/-- The bytes of a budget record. -/
def budgetBytes (b : BudgetRecord) : List Byte :=
  byte2 b.standby ++ byte2 b.preheat ++ byte2 b.inrush ++ byte2 b.run

/-! ### Chapter 3: channel entries and the poll record (Tables 3-1 and 3-2) -/

/-- The channel kinds in order. -/
def channelKinds : List ChannelKind := [.temperature, .raw]

/-- The interval classes in order. -/
def intervalClasses : List IntervalClass := [.fast, .normal, .slow]

/-- LOAD_CHANNEL's payload (R45). -/
def readChannel (p : List Byte) : Option ChannelLoad := do
  let (channel, p) ← takeFin 16 p
  let (valid, p) ← takeBool p
  let (module, p) ← take1 p
  let (register, p) ← take1 p
  let (kind, p) ← takeNamed channelKinds p
  let (interval, p) ← takeNamed intervalClasses p
  let (coldDoubling, p) ← takeBool p
  let (staleLimit, _) ← take1 p
  (checked ChannelEntry.inRange { valid, module, register, kind, interval, coldDoubling, staleLimit }).map fun e =>
    { channel := channel, entry := e }

/-- The bytes of a channel entry. -/
def channelEntryBytes (e : ChannelEntry) : List Byte :=
  boolByte e.valid ++ byte1 e.module ++ byte1 e.register ++ byte1 (codeOf channelKinds e.kind)
  ++ byte1 (codeOf intervalClasses e.interval) ++ boolByte e.coldDoubling ++ byte1 e.staleLimit

/-- The payload of LOAD_CHANNEL. -/
def channelBytes (l : ChannelLoad) : List Byte := byte1 l.channel.val ++ channelEntryBytes l.entry

/-- LOAD_POLL's payload (R47). -/
def readPoll (p : List Byte) : Option PollRecord := do
  let (fast, p) ← take2 p
  let (normal, p) ← take2 p
  let (slow, p) ← take2 p
  let (fieldTimeout, _) ← take1 p
  checked PollRecord.inRange { fast, normal, slow, fieldTimeout }

/-- The bytes of a poll record. -/
def pollBytes (r : PollRecord) : List Byte := byte2 r.fast ++ byte2 r.normal ++ byte2 r.slow ++ byte1 r.fieldTimeout

/-! ### Chapter 5: action table entries (Tables 5-2 and 5-3) -/

/-- The trip directions in order. -/
def compares : List Compare := [.above, .below]

/-- The stale policies in order. -/
def stalePolicies : List StalePolicy := [.hold, .trip]

/-- An edge action: its code, then its argument, 0 for one without (R159). -/
def takeEdge : List Byte → Field EdgeAction
  | a :: b :: p =>
    match a.toNat with
    | 0 => if b = 0 then some (.none, p) else none
    | 1 => if h : b.toNat < 4 then some (.setFlag ⟨b.toNat, h⟩, p) else none
    | 2 => if h : b.toNat < 4 then some (.clearFlag ⟨b.toNat, h⟩, p) else none
    | 3 => if b = 0 then some (.notify, p) else none
    | _ => none
  | _ => none

/-- The bytes of an edge action. -/
def edgeBytes : EdgeAction → List Byte
  | .none => [0, 0]
  | .setFlag f => 1 :: byte1 f.val
  | .clearFlag f => 2 :: byte1 f.val
  | .notify => [3, 0]

/-- A level action: its code, then its argument. -/
def takeLevel : List Byte → Field LevelAction
  | a :: b :: p =>
    match a.toNat with
    | 0 => if b = 0 then some (.none, p) else none
    | 1 => if h : b.toNat < 4 then some (.cutZone ⟨b.toNat, h⟩, p) else none
    | 2 => if h : b.toNat < 16 then some (.forceOn ⟨b.toNat, h⟩, p) else none
    | 3 => if h : b.toNat < 16 then some (.forceOff ⟨b.toNat, h⟩, p) else none
    | _ => none
  | _ => none

/-- The bytes of a level action. -/
def levelBytes : LevelAction → List Byte
  | .none => [0, 0]
  | .cutZone z => 1 :: byte1 z.val
  | .forceOn o => 2 :: byte1 o.val
  | .forceOff o => 3 :: byte1 o.val

/-- The fields of a sample rule after its key (Table 5-2). -/
def readSampleRule (channel : Channel) (p : List Byte) : Option ActionEntry := do
  let (condition, p) ← takeFin 32 p
  let (compare, p) ← takeNamed compares p
  let (threshold, p) ← takeInt4 p
  let (hysteresis, p) ← take2 p
  let (stale, p) ← takeNamed stalePolicies p
  let (edge, p) ← takeEdge p
  let (level, p) ← takeLevel p
  let (report, _) ← takeBool p
  checked ActionEntry.inRange
    (.sample { channel, condition, compare, threshold, hysteresis, stale, edge, level, report })

/-- The fields of a guard rule after its key (Table 5-3); a bit of the op mask beyond WRITE is outside the set (log 21). -/
def readGuardRule (window : Fin 8) (p : List Byte) : Option ActionEntry := do
  let (condition, p) ← takeFin 32 p
  let (mask, _) ← takeFin 4 p
  checked ActionEntry.inRange
    (.guard { window, condition, coversRead := mask.val % 2 = 1, coversWrite := 2 ≤ mask.val })

/-- The fields of a valid entry, as its key selects (R74, R75). -/
def readActionFields (key : Fin 24) (p : List Byte) : Option ActionEntry :=
  if h : key.val < 16 then readSampleRule ⟨key.val, h⟩ p else readGuardRule ⟨key.val - 16, by omega⟩ p

/-- The set of a key (R74). -/
def keySet (key : Fin 24) : Fin 8 := ⟨key.val % 8, by omega⟩

/-- A way selector: 0 to 3, or ANY, 4 (R75, R159). -/
def takeSelector (p : List Byte) : Field WaySelector :=
  match takeFin 5 p with
  | some (w, p) => some (if h : w.val < 4 then .way ⟨w.val, h⟩ else .any, p)
  | none => none

/-- LOAD_ACTION's payload (R75): an invalid record with ANY is refused. -/
def readAction (p : List Byte) : Option ActionLoad := do
  let (selector, p) ← takeSelector p
  let (valid, p) ← takeBool p
  let (key, p) ← takeFin 24 p
  if valid then
    (readActionFields key p).map fun e => { selector := selector, set := keySet key, entry := some e }
  else if selector = .any then none
  else some { selector := selector, set := keySet key, entry := none }

/-- The bytes of a valid entry's fields after its key. -/
def actionFieldBytes : ActionEntry → List Byte
  | .sample r =>
    byte1 r.condition.val ++ byte1 (codeOf compares r.compare) ++ int4 r.threshold ++ byte2 r.hysteresis
    ++ byte1 (codeOf stalePolicies r.stale) ++ edgeBytes r.edge ++ levelBytes r.level ++ boolByte r.report
  | .guard g => byte1 g.condition.val ++ flagsByte [g.coversRead, g.coversWrite]

/-- The bytes of an entry record: valid, key and fields; an invalid one has the key `set` (R75). -/
def entryRecordBytes (set : Fin 8) : Option ActionEntry → List Byte
  | some e => boolByte true ++ byte1 e.key ++ actionFieldBytes e
  | none => boolByte false ++ byte1 set.val

/-- The byte of a way selector. -/
def selectorByte : WaySelector → List Byte
  | .way w => byte1 w.val
  | .any => byte1 4

/-- The payload of LOAD_ACTION, completed to 17 bytes. -/
def actionBytes (a : ActionLoad) : List Byte := padTo 17 (selectorByte a.selector ++ entryRecordBytes a.set a.entry)

/-! ### Chapter 9: window entries (Table 9-1) -/

/-- The accesses in order. -/
def accesses : List Access := [.readOnly, .writeOnly, .readWrite]

/-- LOAD_WINDOW's payload (R145). -/
def readWindow (p : List Byte) : Option WindowLoad := do
  let (window, p) ← takeFin 8 p
  let (valid, p) ← takeBool p
  let (base, p) ← takeWord p
  let (mask, p) ← takeWord p
  let (module, p) ← take1 p
  let (regBase, p) ← take1 p
  let (access, _) ← takeNamed accesses p
  (checked WindowEntry.inRange { valid, base, mask, module, regBase, access }).map fun e => { window := window, entry := e }

/-- The bytes of a window entry. -/
def windowEntryBytes (e : WindowEntry) : List Byte :=
  boolByte e.valid ++ wordBytes e.base ++ wordBytes e.mask ++ byte1 e.module ++ byte1 e.regBase
  ++ byte1 (codeOf accesses e.access)

/-- The payload of LOAD_WINDOW. -/
def windowBytes (l : WindowLoad) : List Byte := byte1 l.window.val ++ windowEntryBytes l.entry

/-! ### Chapter 7: keypad record (Table 7-1) -/

/-- The keypad zones: 0 to 3, then NONE, 4 (R159). -/
def keypadZones : List (Option Zone) := [some 0, some 1, some 2, some 3, none]

/-- LOAD_KEYPAD's payload (R113). -/
def readKeypad (p : List Byte) : Option KeypadRecord := do
  let (scanPeriod, p) ← take1 p
  let (dBase, p) ← take1 p
  let (dMax, p) ← take1 p
  let (step, p) ← take1 p
  let (stuckTime, p) ← take1 p
  let (zone, p) ← takeNamed keypadZones p
  let (ghostMasking, _) ← takeBool p
  checked KeypadRecord.inRange { scanPeriod, dBase, dMax, step, stuckTime, zone, ghostMasking }

/-- The bytes of a keypad record. -/
def keypadBytes (r : KeypadRecord) : List Byte :=
  byte1 r.scanPeriod ++ byte1 r.dBase ++ byte1 r.dMax ++ byte1 r.step ++ byte1 r.stuckTime
  ++ byte1 (codeOf keypadZones r.zone) ++ boolByte r.ghostMasking

/-! ### Chapter 8: key map entries (Table 8-2) -/

/-- A service function: its code, then its argument (R159). -/
def takeFunction : List Byte → Field ServiceFunction
  | a :: b :: p =>
    match a.toNat with
    | 0 => if b = 0 then some (.wake, p) else none
    | 1 => if b = 0 then some (.ackLockout, p) else none
    | 2 => if b = 0 then some (.requestRestart, p) else none
    | 3 => if b = 0 then some (.requestShutdown, p) else none
    | 4 => if h : b.toNat < 4 then some (.setFlag ⟨b.toNat, h⟩, p) else none
    | 5 => if h : b.toNat < 4 then some (.clearFlag ⟨b.toNat, h⟩, p) else none
    | _ => none
  | _ => none

/-- The bytes of a service function. -/
def functionBytes : ServiceFunction → List Byte
  | .wake => [0, 0]
  | .ackLockout => [1, 0]
  | .requestRestart => [2, 0]
  | .requestShutdown => [3, 0]
  | .setFlag f => 4 :: byte1 f.val
  | .clearFlag f => 5 :: byte1 f.val

/-- The kinds of key map entries in the order of Table 8-1. -/
def keyKinds : List KeyKind := [.none, .transparent, .plain, .layer, .clearOne, .clearAll, .service]

/-- The fields of a key map entry of a kind (Table 8-2). -/
def readKeyFields (kind : KeyKind) (p : List Byte) : Option KeyEntry :=
  match kind with
  | .none => some .none
  | .transparent => some .transparent
  | .clearOne => some .clearOne
  | .clearAll => some .clearAll
  | .plain => do
    let (code, _) ← take1 p
    checked KeyEntry.inRange (.plain code)
  | .layer => do
    let (layer, p) ← takeFin 4 p
    let (termination, p) ← takeFin 32 p
    let (count, p) ← take1 p
    let (delay, _) ← take2 p
    checked KeyEntry.inRange (.layer layer termination count delay)
  | .service => do
    let (function, p) ← takeFunction p
    let (condition, _) ← takeFin 32 p
    checked KeyEntry.inRange (.service function condition)

/-- LOAD_KEYMAP's ENTRY form, 9 bytes: form 0, layer, position, entry (R128). -/
def readKeymapEntry (p : List Byte) : Option KeymapLoad := do
  let (_, p) ← takeFin 1 p
  let (layer, p) ← takeFin 4 p
  let (position, p) ← takeFin 64 p
  let (kind, p) ← takeNamed keyKinds p
  (readKeyFields kind p).map fun e => { layer := layer, position := position, entry := e }

/-- The bytes of a key map entry's fields after its kind. -/
def keyFieldBytes : KeyEntry → List Byte
  | .none | .transparent | .clearOne | .clearAll => []
  | .plain code => byte1 code
  | .layer l t count delay => byte1 l.val ++ byte1 t.val ++ byte1 count ++ byte2 delay
  | .service f c => functionBytes f ++ byte1 c.val

/-- The bytes of a key map entry: its kind, then its fields. -/
def keyEntryBytes (e : KeyEntry) : List Byte := byte1 (codeOf keyKinds e.kind) ++ keyFieldBytes e

/-- The payload of LOAD_KEYMAP's ENTRY form, completed to 9 bytes. -/
def keymapBytes (l : KeymapLoad) : List Byte :=
  padTo 9 (byte1 0 ++ byte1 l.layer.val ++ byte1 l.position.val ++ keyEntryBytes l.entry)

/-- A layer timeout is 0 to 60,000 ms in steps of 100 (Table 8-3). -/
def layerTimeoutInRange (t : Nat) : Bool := t ≤ 60000 && t % 100 == 0

/-- LOAD_KEYMAP's SETTINGS form, 3 bytes: form 1, layer timeout (R128). -/
def readKeymapSettings : List Byte → Option Nat
  | f :: p =>
    if f = 1 then
      match take2 p with
      | some (t, _) => checked layerTimeoutInRange t
      | none => none
    else none
  | [] => none

/-- The payload of LOAD_KEYMAP's SETTINGS form. -/
def keymapSettingsBytes (timeout : Nat) : List Byte := byte1 1 ++ byte2 timeout

end Sys2Proof.Machine
end

