-- ==== Sys2Proof/Machine/Loads.lean ====
section
/-! DEFINITION. The LOAD operations: STATE while the Image Store is storing, then BAD_REQUEST outside the ranges, then the load
at its owner (R3, R23, R26, R45, R47, R75, R93, R113, R128, R145, R169). -/

namespace Sys2Proof.Machine

open Sys2Proof

/-- LOAD_SEQUENCE at its owner (R3, R4). -/
def applyLoadSequence (r : SequenceRecord) (s : State) : State × Answer := ({ s with hpc.sequence := r }, .done)

/-- LOAD_SEQUENCE (R3). -/
def execLoadSequence (tag : Tag) (p : List Byte) (s : State) : Result := upon s fun s =>
  recordOp tag 0x13 (p.length == 24) (loadOp (readSequence p) applyLoadSequence) s

/-- LOAD_LADDER at its owner (R93, R94): the hard-restart list keeps its newest hard limit entries. -/
def applyLoadLadder (r : LadderRecord) (s : State) : State × Answer :=
  let l := s.hpc.hardList
  ({ s with hpc.ladder := r, hpc.hardList := l.drop (l.length - r.hardLimit) }, .done)

/-- LOAD_LADDER (R93). -/
def execLoadLadder (tag : Tag) (p : List Byte) (s : State) : Result := upon s fun s =>
  recordOp tag 0x14 (p.length == 19) (loadOp (readLadder p) applyLoadLadder) s

/-- The new record of zone z is enabled with the priority of another enabled zone (R23). -/
def priorityTaken (s : State) (l : ZoneLoad) : Bool :=
  l.record.enable && allZones.any fun z =>
    z != l.zone && s.heat.records[z].enable && s.heat.records[z].priority = l.record.priority

/-- The named zone's runtime state after an accepted LOAD_ZONE (R24). -/
def reloadedZone (old new : ZoneRecord) (z : ZoneState) : ZoneState :=
  let z1 := { z with grant := 0, request := 0, output := false, onStreak := 0, restCount := 0 }
  if old.channel = new.channel then z1 else { z1 with held := none, holdCount := 0 }

/-- LOAD_ZONE at its owner (R23, R24). -/
def applyLoadZone (l : ZoneLoad) (s : State) : State × Answer :=
  if priorityTaken s l then (s, .refuse .badRequest)
  else
    let st := reloadedZone s.heat.records[l.zone] l.record s.heat.zones[l.zone]
    ({ s with
        heat.records := vset s.heat.records l.zone l.record
        heat.zones := vset s.heat.zones l.zone st }, .done)

/-- LOAD_ZONE (R23). -/
def execLoadZone (tag : Tag) (p : List Byte) (s : State) : Result := upon s fun s =>
  recordOp tag 0x20 (p.length == 25) (loadOp (readZone p) applyLoadZone) s

/-- LOAD_BUDGET at its owner (R26): an immediate recomputation if the budget in force is lowered. -/
def applyLoadBudget (b : BudgetRecord) (s : State) : State × Answer :=
  let s1 := { s with heat.budget := b }
  (if budgetInForce s1 < budgetInForce s then immediateRecompute s1 else s1, .done)

/-- LOAD_BUDGET (R26). -/
def execLoadBudget (tag : Tag) (p : List Byte) (s : State) : Result := upon s fun s =>
  recordOp tag 0x21 (p.length == 8) (loadOp (readBudget p) applyLoadBudget) s

/-- LOAD_CHANNEL (R45, R46). -/
def execLoadChannel (tag : Tag) (p : List Byte) (s : State) : Result := upon s fun s =>
  recordOp tag 0x22 (p.length == 8) (loadOp (readChannel p) applyLoadChannel) s

/-- LOAD_POLL (R47). -/
def execLoadPoll (tag : Tag) (p : List Byte) (s : State) : Result := upon s fun s =>
  recordOp tag 0x23 (p.length == 7) (loadOp (readPoll p) applyLoadPoll) s

/-- LOAD_ACTION (R75 to R77). -/
def execLoadAction (tag : Tag) (p : List Byte) (s : State) : Result := upon s fun s =>
  recordOp tag 0x24 (p.length == 17) (loadOp (readAction p) applyLoadAction) s

/-- LOAD_WINDOW (R145). -/
def execLoadWindow (tag : Tag) (p : List Byte) (s : State) : Result := upon s fun s =>
  recordOp tag 0x28 (p.length == 9) (loadOp (readWindow p) applyLoadWindow) s

/-- LOAD_KEYPAD (R113, R125). -/
def execLoadKeypad (tag : Tag) (p : List Byte) (requestFirst : BitVec 64) (s : State) : Result := upon s fun s =>
  recordOp tag 0x30 (p.length == 7) (loadOp (readKeypad p) (applyLoadKeypad requestFirst)) s

/-- LOAD_KEYMAP, ENTRY form (R128). -/
def execLoadKeymapEntry (tag : Tag) (p : List Byte) (s : State) : Result := upon s fun s =>
  recordOp tag 0x31 (p.length == 9) (loadOp (readKeymapEntry p) applyLoadKeymapEntry) s

/-- LOAD_KEYMAP, SETTINGS form (R128). -/
def execLoadKeymapSettings (tag : Tag) (p : List Byte) (s : State) : Result := upon s fun s =>
  recordOp tag 0x31 (p.length == 3) (loadOp (readKeymapSettings p) applyLoadKeymapSettings) s

end Sys2Proof.Machine
end

