-- ==== Sys2Proof/Machine/Outputs.lean ====
section
/-! DEFINITION. The Output Unit and the Error and Counter Unit's operations (chapter 11). -/

namespace Sys2Proof.Machine

open Sys2Proof

/-- The layer indicator source at an output: output 6 the lower binary digit of the current layer, output 7 the higher (R142). -/
def indicatorAt (s : State) (o : Fin 16) : Bool :=
  let l := s.keymap.currentLayer.val
  if o = 6 then l % 2 = 1 else 2 ≤ l

/-- The effective value of output o (R171). -/
def effectiveOutput (s : State) (o : Fin 16) : Bool :=
  if 0 < s.outs.forceOn[o] then true
  else if 0 < s.outs.forceOff[o] then false
  else if s.outs.indicator && (o = 6 || o = 7) then indicatorAt s o
  else s.outs.hostWord.getLsbD o.val

/-- The 16-bit word whose bit o is `f o`. -/
def wordOf (f : Fin 16 → Bool) : Word :=
  (List.finRange 16).foldl (fun w o => if f o then w ||| oneBit o else w) 0

/-- The effective output word (R171). -/
def effectiveWord (s : State) : Word := wordOf (effectiveOutput s)

/-- The host word after a DIRECT write: the bits of the plane mask take the data bits (R172). -/
def directWrite (plane data old : Word) : Word := (old &&& ~~~plane) ||| (data &&& plane)

/-- The host word after a STIPPLE write: the bits of plane mask and data take the foreground bits (R172). -/
def stippleWrite (plane foreground data old : Word) : Word := (old &&& ~~~(plane &&& data)) ||| (foreground &&& (plane &&& data))

/-- The host word after a write of a mode, none for a mode that is neither DIRECT nor STIPPLE (R172). -/
def writtenWord (o : Outputs) (mode : Byte) (data : Word) : Option Word :=
  if mode = 0 then some (directWrite o.planeMask data o.hostWord)
  else if mode = 1 then some (stippleWrite o.planeMask o.foreground data o.hostWord)
  else none

/-- WRITE_OUTPUTS at its owner (R172). -/
def applyWriteOutputs (mode : Byte) (data : Word) (s : State) : State × Answer :=
  match writtenWord s.outs mode data with
  | some w =>
    let s1 := { s with outs.hostWord := w }
    (s1, { status := .done, payload := wordBytes w ++ wordBytes (effectiveWord s1) })
  | none => (s, .refuse .badRequest)

/-- WRITE_OUTPUTS (R172). -/
def execWriteOutputs (tag : Tag) (mode : Byte) (data : Word) (s : State) : Result := upon s fun s =>
  supervisorOp tag 0x40 (applyWriteOutputs mode data) s

/-- SET_OUTPUT_MASK at its owner (R172). -/
def applySetOutputMask (plane foreground : Word) (indicator : Byte) (s : State) : State × Answer :=
  if 2 ≤ indicator.toNat then (s, .refuse .badRequest)
  else
    ({ s with
        outs.planeMask := plane
        outs.foreground := foreground
        outs.indicator := decide (indicator = 1) }, .done)

/-- SET_OUTPUT_MASK (R172). -/
def execSetOutputMask (tag : Tag) (plane foreground : Word) (indicator : Byte) (s : State) : Result := upon s fun s =>
  supervisorOp tag 0x41 (applySetOutputMask plane foreground indicator) s

/-- The error record after a clear by a class mask (R176). -/
def Errors.clear (mask : Word) (e : Errors) : Errors :=
  let e1 := { e with flags := e.flags &&& ~~~mask }
  match e.detail with
  | some d => if mask.getLsbD d.cls.bit.val then { e1 with detail := none, multiple := false } else e1
  | none => e1

/-- ERROR_CLEAR at its owner (R176). -/
def applyErrorClear (mask : Word) (s : State) : State × Answer :=
  let e := s.errs.clear mask
  ({ s with errs := e }, { status := .done, payload := wordBytes e.flags })

/-- ERROR_CLEAR (R176). -/
def execErrorClear (tag : Tag) (mask : Word) (s : State) : Result := upon s fun s =>
  supervisorOp tag 0x48 (applyErrorClear mask) s

/-- SET_IGNORE at its owner: STATE while the Image Store is storing (R176). -/
def applySetIgnore (mask : Word) (s : State) : State × Answer :=
  if s.imageState.isStoring then (s, .refuse .state) else ({ s with errs.ignore := mask }, .done)

/-- SET_IGNORE (R176). -/
def execSetIgnore (tag : Tag) (mask : Word) (s : State) : Result := upon s fun s =>
  supervisorOp tag 0x49 (applySetIgnore mask) s

/-- The counter events in the order of Table 11-5. -/
def counterEvents : List CounterEvent :=
  [.relayDone, .relayRefused, .polls, .pollMisses, .keyNotices, .keyDiscarded, .noticesLost, .heartbeats
    , .earlyHeartbeats, .limitedPeriods, .lateReply]

/-- COUNTER_SELECT at its owner (R178). -/
def applyCounterSelect (counter event : Byte) (s : State) : State × Answer :=
  if h : counter.toNat < 2 then
    match counterEvents[event.toNat]? with
    | some e => ({ s with counters := vset s.counters ⟨counter.toNat, h⟩ { select := e, count := 0 } }, .done)
    | none => (s, .refuse .badRequest)
  else (s, .refuse .badRequest)

/-- COUNTER_SELECT (R178). -/
def execCounterSelect (tag : Tag) (counter event : Byte) (s : State) : Result := upon s fun s =>
  supervisorOp tag 0x4A (applyCounterSelect counter event) s

end Sys2Proof.Machine
end

