-- ==== Sys2Proof/Machine/Wire.lean ====
section
/-! DEFINITION. What leaves on the two ports: the bytes of a reply, of a notice, of the frame in transmission, of a C-port
request (Tables 10-1, 10-5, 10-6, R159). -/

namespace Sys2Proof.Machine

open Sys2Proof

/-- A field that may be absent: a presence byte, then its bytes, or `n` bytes of 0 (R159). -/
def optBytes {α : Type} (n : Nat) (f : α → List Byte) : Option α → List Byte
  | some v => byte1 1 ++ f v
  | none => byte1 0 ++ List.replicate n 0

/-- A list field: the number of entries, then the entries (R159). -/
def listBytes {α : Type} (f : α → List Byte) (l : List α) : List Byte := byte1 l.length ++ l.flatMap f

/-- The frame of a reply: kind REPLY, its tag, its status, its address (Table 10-1). -/
def Reply.frame (r : Reply) : List Byte := frameBytes 1 r.tag r.status.code r.address r.payload

/-- A frozen detail's fields (Table 11-4). -/
def detailBytes (d : ErrorDetail) : List Byte :=
  byte1 d.cls.bit.val ++ byte4 d.time ++ optBytes 1 (fun t : Tag => byte1 t.val) d.fields.tag
  ++ optBytes 2 wordBytes d.fields.address ++ optBytes 1 (fun b : Byte => [b]) d.fields.opCode
  ++ optBytes 1 byte1 d.fields.index

/-- The code of a direction (Table 8-6). -/
def Direction.code : Direction → Nat
  | .press => 0
  | .release => 1

/-- The code of a trip cause (Table 5-6). -/
def TripCause.code : TripCause → Nat
  | .sample => 0
  | .stale => 1

/-- A notice's payload (Tables 8-6, 5-8, 5-6, 6-3, R175). -/
def Notice.payload : Notice → List Byte
  | .key p code d layer forced => byte1 p.val ++ byte1 code ++ byte1 d.code ++ byte1 layer.val ++ boolByte forced
  | .sample i c v tripped => byte1 i.set.val ++ byte1 i.way.val ++ byte1 c.val ++ int4 v ++ boolByte tripped
  | .rule i c cause v trips =>
    byte1 i.set.val ++ byte1 i.way.val ++ byte1 c.val ++ byte1 cause.code ++ optBytes 4 int4 v ++ byte1 trips
  | .watchdogWarn up since grace soft maxSoft => byte4 up ++ byte2 since ++ byte2 grace ++ byte1 soft ++ byte1 maxSoft
  | .error d flags => detailBytes d ++ wordBytes flags

/-- The frame of a notice: kind NOTICE, tag 0, address 0 (Table 10-1). -/
def Notice.frame (n : Notice) : List Byte := frameBytes 2 0 n.code 0 n.payload

/-- The frame the transmitter is sending, empty when it is idle (R165). -/
def transmitted (s : State) : List Byte :=
  match s.panel.tx with
  | .idle => []
  | .reply => (s.panel.replies.head?.map Reply.frame).getD []
  | .notice => (s.panel.notices.head?.map Notice.frame).getD []

/-- The bytes of a C-port request (Table 10-6). -/
def Request.bytes (r : Request) : List Byte :=
  withCheck (byte1 r.module ++ byte1 r.op.code ++ [r.sequence] ++ byte1 r.register ++ byte1 r.length ++ r.data)

/-- The bytes of a C-port reply (Table 10-7), as a module sends it. -/
def fieldReplyBytes (module : Nat) (sequence answer : Byte) (data : List Byte) : List Byte :=
  withCheck (byte1 module ++ [sequence, answer] ++ byte1 data.length ++ data)

end Sys2Proof.Machine
end

