-- ==== Sys2Proof/Machine/Status.lean ====
section
/-! DEFINITION. STATUS_READ (R167): the thirteen records with their bytes, and their parts of 46 bytes. -/

namespace Sys2Proof.Machine

open Sys2Proof

/-! ### Parts (R167) -/

/-- The number of parts of a record: one for each 46 bytes begun; an empty record is one part (R159, R167). -/
def partCount (record : List Byte) : Nat := max 1 ((record.length + Config.partBytes - 1) / Config.partBytes)

/-- The bytes of part k. -/
def partOf (record : List Byte) (k : Nat) : List Byte := (record.drop (Config.partBytes * k)).take Config.partBytes

/-- The answer to part k of a record: the part number, the number of parts, the part's bytes; BAD_REQUEST at or beyond the
number of parts (R167). -/
def partAnswer (record : List Byte) (k : Byte) : Answer :=
  if k.toNat < partCount record then
    { status := .done, payload := [k] ++ byte1 (partCount record) ++ partOf record k.toNat }
  else .refuse .badRequest

/-- A status read at its owner: the record as it stands, or BAD_REQUEST for its argument. It changes nothing. -/
def readStatus (part : Byte) (record : State → Option (List Byte)) (s : State) : State × Answer :=
  match record s with
  | some b => (s, partAnswer b part)
  | none => (s, .refuse .badRequest)

/-- A STATUS_READ operation (R167). -/
def statusOp (tag : Tag) (part : Byte) (record : State → Option (List Byte)) (s : State) : Result :=
  supervisorOp tag 0x50 (readStatus part record) s

/-! ### HOST and LOG (R11, R112) -/

/-- The code of a start kind (Table 1-3). -/
def StartKind.code : StartKind → Nat
  | .none => 0
  | .normal => 1
  | .forced => 2

/-- The start record's bytes (Table 1-3). -/
def startBytes (r : StartRecord) : List Byte :=
  byte1 r.kind.code ++ byte4 r.uptime ++ optBytes 2 int2 r.lowest ++ byte1 r.failedTests

/-- The ladder timer that may run in the present host state (Table 6-5). -/
def ladderTimer (s : State) : Option Timer :=
  match s.hpc.host with
  | .boot => s.hpc.bootTimer
  | .run => s.hpc.heartbeatTimer
  | .warn => s.hpc.graceTimer
  | .restart => s.hpc.pulseTimer
  | .powerCycle => s.hpc.powerOffTimer
  | .lockout => s.hpc.retryTimer
  | .standby | .preheat | .soak | .rails | .drain => none

/-- The code of a restart kind: SOFT, HARD (Table 6-5). -/
def RestartKind.code : RestartKind → Nat
  | .soft => 0
  | .hard => 1

/-- The HOST record: Table 1-3, then Table 6-5 (R112). -/
def hostRecord (s : State) : List Byte :=
  startBytes s.hpc.start ++ byte1 s.hpc.host.code ++ optBytes 4 byte4 ((ladderTimer s).map (remainingMs s))
  ++ optBytes 2 byte2 (s.hpc.stableTimer.map fun t => (s.now - t.start) / 8000) ++ byte1 s.hpc.softCount
  ++ listBytes byte4 s.hpc.hardList ++ optBytes 1 (fun k : RestartKind => byte1 k.code) s.hpc.pendingRestart
  ++ optBytes 1 (fun b : Byte => [b]) s.hpc.lastSeq ++ byte1 s.hpc.log.length

/-- STATUS_READ HOST (R112). -/
def execStatusReadHost (tag : Tag) (part : Byte) (s : State) : Result := upon s fun s =>
  statusOp tag part (fun s => some (hostRecord s)) s

/-- The code of a restart cause (Table 6-4). -/
def RestartCause.code : RestartCause → Nat
  | .watchdogExpiry => 0
  | .bootTimeout => 1
  | .railFault => 2
  | .serviceRequest => 3
  | .hostRequest => 4

/-- The code of a restart action (Table 6-4). -/
def RestartAction.code : RestartAction → Nat
  | .soft => 0
  | .hard => 1
  | .lockout => 2

/-- A restart log record's bytes (Table 6-4). -/
def logBytes (r : LogRecord) : List Byte :=
  byte2 r.sequence ++ byte1 r.cause.code ++ byte1 r.action.code ++ byte1 r.before.code ++ byte4 r.uptime
  ++ optBytes 2 int2 r.lowest ++ byte1 r.hardLength ++ byte1 r.softCount

/-- The LOG record at an index, 0 the newest; empty at or beyond the records held, none outside 0 to 7 (R112). -/
def logRecord (index : Byte) (s : State) : Option (List Byte) :=
  if 8 ≤ index.toNat then none
  else
    match s.hpc.log.reverse[index.toNat]? with
    | some r => some (logBytes r)
    | none => some []

/-- STATUS_READ LOG (R112). -/
def execStatusReadLog (tag : Tag) (part index : Byte) (s : State) : Result := upon s fun s =>
  statusOp tag part (logRecord index) s

/-! ### HEAT (R43) -/

/-- The code of a reading state (R27). -/
def ReadingState.code : ReadingState → Nat
  | .current => 0
  | .held => 1
  | .none => 2

/-- A zone entry of the HEAT record (Table 2-7); its output is ON, 0, or OFF, 1. -/
def heatZoneBytes (s : State) (z : Zone) : List Byte :=
  let r := zoneReading s z
  let x := s.heat.zones[z]
  byte1 r.1.code ++ optBytes 2 int2 r.2 ++ optBytes 2 int2 x.working ++ byte1 x.request ++ byte1 x.grant ++ boolByte x.cut
  ++ byte1 x.cutDemand ++ byte1 x.onStreak ++ byte1 x.restCount ++ byte1 x.holdCount ++ optBytes 1 byte1 x.held
  ++ byte1 (if x.output then 0 else 1)

/-- The HEAT record (Table 2-7), its four zone entries a list (R159). -/
def heatRecord (s : State) : List Byte :=
  byte2 (budgetInForce s) ++ boolByte s.heat.limited ++ byte2 (periodTime s / 8)
  ++ listBytes (heatZoneBytes s) allZones

/-- STATUS_READ HEAT (R43). -/
def execStatusReadHeat (tag : Tag) (part : Byte) (s : State) : Result := upon s fun s =>
  statusOp tag part (fun s => some (heatRecord s)) s

/-! ### PROBE (R61) -/

/-- The code of a poll state (Table 3-6). -/
def PollState.code : PollState → Nat
  | .off => 0
  | .waiting => 1
  | .queued => 2
  | .inFlight => 3
  | .inFlightDue => 4

/-- A sample's age in ms, saturating at 65,535,000 (R59). -/
def sampleAge (s : State) (x : Sample) : Nat := min ((s.now - x.moment) / 8) 65535000

/-- The PROBE record of a channel (Table 3-7). -/
def probeRecord (c : Channel) (s : State) : List Byte :=
  let x := s.probe.chans[c]
  byte1 c.val ++ byte1 x.poll.code ++ optBytes 2 (fun d => byte2 ((d - s.now) / 8)) x.due ++ optBytes 2 byte2 x.interval
  ++ boolByte x.last.isSome ++ boolByte x.missing ++ byte1 x.misses ++ optBytes 2 int2 (x.last.map Sample.value)
  ++ optBytes 4 byte4 (x.last.map (sampleAge s)) ++ byte1 (pollQueue s).length

/-- STATUS_READ PROBE (R61). -/
def execStatusReadProbe (tag : Tag) (part channel : Byte) (s : State) : Result := upon s fun s =>
  statusOp tag part (fun s => if h : channel.toNat < 16 then some (probeRecord ⟨channel.toNat, h⟩ s) else none) s

/-! ### CONDITIONS (R73) -/

/-- The CONDITIONS record (Table 4-3). -/
def conditionsRecord (s : State) : List Byte :=
  wordBytes (wordOf (baseCondition s)) ++ byte1 s.flags.toNat ++ byte1 s.hpc.host.code ++ byte1 s.keymap.stack.length

/-- STATUS_READ CONDITIONS (R73). -/
def execStatusReadConditions (tag : Tag) (part : Byte) (s : State) : Result := upon s fun s =>
  statusOp tag part (fun s => some (conditionsRecord s)) s

/-! ### ACTIONS (R91) -/

/-- A way record (R91): locked, valid, and for a valid entry its key, its fields and a sample rule's runtime state. -/
def wayBytes (s : State) (set : Fin 8) (way : Fin 4) : List Byte :=
  let i := slotOf set way
  boolByte (way < s.acts.lock) ++
    match s.acts.entries[i] with
    | some (.sample r) =>
      byte1 1 ++ byte1 r.channel.val ++ actionFieldBytes (.sample r) ++ boolByte s.acts.rules[i].tripped
      ++ byte1 s.acts.rules[i].trips
    | some (.guard g) => byte1 1 ++ byte1 (16 + g.window.val) ++ actionFieldBytes (.guard g)
    | none => byte1 0

/-- The ACTIONS record of a set (R91). -/
def actionsRecord (set : Fin 8) (s : State) : List Byte :=
  byte1 s.acts.lock.val ++ boolByte s.acts.protect ++ ([0, 1, 2, 3] : List (Fin 4)).flatMap (wayBytes s set)

/-- STATUS_READ ACTIONS (R91). -/
def execStatusReadActions (tag : Tag) (part set : Byte) (s : State) : Result := upon s fun s =>
  statusOp tag part (fun s => if h : set.toNat < 8 then some (actionsRecord ⟨set.toNat, h⟩ s) else none) s

/-! ### KEYPAD and KEYMAP (R127, R144) -/

/-- The code of a position state (Table 7-2). -/
def PadState.code : PadState → Nat
  | .open => 0
  | .closing => 1
  | .closed => 2
  | .masked => 3
  | .opening => 4
  | .stuck => 5

/-- The number of positions in the closed set. -/
def closedSetSize (s : State) : Nat := (allPositions.filter (inClosedSet s)).length

/-- The KEYPAD record (Table 7-5), its 64 position states a list (R159). -/
def keypadRecord (s : State) : List Byte :=
  byte1 s.pad.count ++ optBytes 2 int2 s.pad.basis ++ byte1 s.pad.record.scanPeriod ++ boolByte s.pad.record.ghostMasking
  ++ byte1 (closedSetSize s) ++ listBytes (fun p => byte1 s.pad.positions[p].state.code) allPositions

/-- STATUS_READ KEYPAD (R127). -/
def execStatusReadKeypad (tag : Tag) (part : Byte) (s : State) : Result := upon s fun s =>
  statusOp tag part (fun s => some (keypadRecord s)) s

/-- A position's KU state (Table 8-5). -/
def keyPositionBytes (s : State) (x : KeyPosition) : List Byte :=
  optBytes 2 (fun r : KeyKind × Fin 4 => byte1 (codeOf keyKinds r.1) ++ byte1 r.2.val) x.resolution
  ++ optBytes 1 byte1 x.code ++ boolByte x.reported
  ++ optBytes 5 (fun a : Arm => byte2 (remainingMs s a.timer) ++ byte1 a.layer.val ++ byte1 a.termination.val
      ++ byte1 a.count) x.arm

/-- A stack entry (Table 8-4). -/
def stackEntryBytes (e : StackEntry) : List Byte :=
  byte1 e.layer.val ++ byte1 e.position.val ++ byte1 e.termination.val ++ boolByte e.counted ++ byte1 e.count
  ++ byte2 e.idle ++ boolByte e.held

/-- The KEYMAP record of a layer and a position, the stack bottom first (R144). -/
def keymapRecord (layer : Fin 4) (p : Position) (s : State) : List Byte :=
  keyEntryBytes s.keymap.entries[keySlot layer p] ++ keyPositionBytes s s.keymap.positions[p]
  ++ byte2 s.keymap.layerTimeout ++ byte1 s.keymap.currentLayer.val ++ byte1 s.keymap.stack.length
  ++ listBytes stackEntryBytes s.keymap.stack.reverse

/-- STATUS_READ KEYMAP (R144). -/
def execStatusReadKeymap (tag : Tag) (part layer position : Byte) (s : State) : Result := upon s fun s =>
  statusOp tag part (fun s =>
    if h : layer.toNat < 4 ∧ position.toNat < 64 then
      some (keymapRecord ⟨layer.toNat, h.1⟩ ⟨position.toNat, h.2⟩ s)
    else none) s

/-! ### RELAY (R158) -/

/-- The code of the link state: IDLE, RELAY, POLL, ORPHAN (Table 9-5). -/
def linkCode : Option Link → Nat
  | none => 0
  | some l =>
    match l.use with
    | .relay => 1
    | .poll _ _ => 2
    | .orphan => 3

/-- The code of a party: RELAY, POLL (Table 9-5). -/
def Party.code : Party → Nat
  | .relay => 0
  | .poll => 1

/-- A relay entry (Table 9-3): its data absent for a READ, its state QUEUED 0 or IN_FLIGHT 1. The absent data is a presence
byte 0 and one byte of 0 (log 16). -/
def relayEntryBytes (inFlight : Bool) (e : RelayEntry) : List Byte :=
  byte1 e.tag.val ++ byte1 e.op.code ++ wordBytes e.address ++ byte1 e.window.val ++ byte1 e.module ++ byte1 e.register
  ++ byte1 e.length
  ++ optBytes 1 (fun d : List Byte => listBytes (fun b => [b]) d) (if e.op = .read then none else some e.data)
  ++ boolByte inFlight

/-- The relay entries, oldest first; the oldest is IN_FLIGHT while the link is RELAY. -/
def relayEntriesBytes (s : State) : List Byte :=
  byte1 s.relay.queue.length ++
    match s.relay.queue with
    | e :: rest => relayEntryBytes (linkCode s.relay.link = 1) e ++ rest.flatMap (relayEntryBytes false)
    | [] => []

/-- The RELAY record (Table 9-5), its relay entries and its eight windows lists (R159). -/
def relayRecord (s : State) : List Byte :=
  byte1 (linkCode s.relay.link) ++ byte1 s.relay.lastServed.code ++ [s.relay.seq] ++ byte1 s.probe.poll.fieldTimeout
  ++ relayEntriesBytes s ++ listBytes windowEntryBytes s.relay.windows.toList

/-- STATUS_READ RELAY (R158). -/
def execStatusReadRelay (tag : Tag) (part : Byte) (s : State) : Result := upon s fun s =>
  statusOp tag part (fun s => some (relayRecord s)) s

/-! ### OUTPUTS, ERRORS, COUNTERS (R173, R177, R178) -/

/-- The OUTPUTS record (R173). -/
def outputsRecord (s : State) : List Byte :=
  wordBytes s.outs.hostWord ++ wordBytes s.outs.planeMask ++ wordBytes s.outs.foreground ++ boolByte s.outs.indicator
  ++ byte1 s.keymap.currentLayer.val ++ wordBytes (effectiveWord s)
  ++ wordBytes (wordOf fun o => 0 < s.outs.forceOn[o]) ++ wordBytes (wordOf fun o => 0 < s.outs.forceOff[o])

/-- STATUS_READ OUTPUTS (R173). -/
def execStatusReadOutputs (tag : Tag) (part : Byte) (s : State) : Result := upon s fun s =>
  statusOp tag part (fun s => some (outputsRecord s)) s

/-- The ERRORS record (R177): an absent detail takes the 14 bytes of a detail as 0. -/
def errorsRecord (s : State) : List Byte :=
  wordBytes s.errs.flags ++ wordBytes s.errs.ignore ++ boolByte s.errs.multiple ++ optBytes 14 detailBytes s.errs.detail

/-- STATUS_READ ERRORS (R177). -/
def execStatusReadErrors (tag : Tag) (part : Byte) (s : State) : Result := upon s fun s =>
  statusOp tag part (fun s => some (errorsRecord s)) s

/-- The COUNTERS record (R178). -/
def countersRecord (s : State) : List Byte :=
  s.counters.toList.flatMap fun c => byte1 c.select.code ++ byte4 c.count

/-- STATUS_READ COUNTERS (R178). -/
def execStatusReadCounters (tag : Tag) (part : Byte) (s : State) : Result := upon s fun s =>
  statusOp tag part (fun s => some (countersRecord s)) s

/-! ### LINK (Table 10-9) -/

/-- The code of an image state (Table 10-9). -/
def ImageState.code : ImageState → Nat
  | .valid => 0
  | .factory => 1
  | .storing _ _ _ => 2

/-- The stored speed, 115,200 while the store holds no valid image (R170). -/
def Store.speed : Store → Speed
  | .image i => i.speed
  | .empty | .damaged => .low

/-- The LINK record (Table 10-9): the entry the read itself has claimed is counted (log 13). -/
def linkRecord (s : State) : List Byte :=
  byte1 s.imageState.code ++ byte4 s.panel.speed.bitRate ++ byte4 s.store.speed.bitRate ++ byte1 s.panel.replies.length
  ++ byte1 (occupied s + 1) ++ byte1 s.panel.notices.length

/-- STATUS_READ LINK (R167). -/
def execStatusReadLink (tag : Tag) (part : Byte) (s : State) : Result := upon s fun s =>
  statusOp tag part (fun s => some (linkRecord s)) s

end Sys2Proof.Machine
end

