-- ==== Sys2Proof/Machine/Link.lean ====
section
/-! DEFINITION. The Frame Engine's line events, the Image Store, power-on, power loss and SUPERVISOR_RESET (chapter 10). -/

namespace Sys2Proof.Machine

open Sys2Proof

/-! ### Line events (R160, R161, R165) -/

/-- HOST_CHECK is recorded with no tag while the receiver is enabled (R160, R161). -/
def recordHostCheck (s : State) : State := if s.hpc.host.delivers then recordError .hostCheck {} s else s

/-- HOST_CHECK_FRAME: no reply and no entry claimed (R161). -/
def execHostCheckFrame (s : State) : Result := upon s fun s => finish (recordHostCheck s)

/-- MALFORMED_FRAME (R161, R162). -/
def execMalformedFrame (tag : Tag) (op : Byte) (address : Addr) (s : State) : Result := upon s fun s =>
  finish (takeMalformed tag op address s)

/-- FRAME_LENGTH_ABANDON: the frame is abandoned and HOST_CHECK recorded (R160). -/
def execFrameLengthAbandon (s : State) : Result := upon s fun s =>
  finish (recordHostCheck { s with panel.partialFrame := [] })

/-- FRAME_IDLE_ABANDON: the frame is abandoned and nothing recorded (R160). -/
def execFrameIdleAbandon (s : State) : Result := upon s fun s => finish { s with panel.partialFrame := [] }

/-- The frame of the oldest reply has been sent: its entry is released, and the HPC is told of a HOST_RESTART's (R165, R108). -/
def replySent (s : State) : State :=
  match s.panel.replies with
  | r :: rest =>
    let s1 := { s with panel.replies := rest, panel.tx := .idle }
    if r.restart then hostRestartReplyLeft s1 else s1
  | [] => { s with panel.tx := .idle }

/-- TRANSMIT_COMPLETE (R165). -/
def execTransmitComplete (s : State) : Result := upon s fun s =>
  match s.panel.tx with
  | .idle => finish s
  | .reply => finish (replySent s)
  | .notice => finish { s with panel.notices := s.panel.notices.tail, panel.tx := .idle }

/-! ### Image Store (R169) -/

/-- The contents of Table 10-10 as they stand, with the carried speed (R169). -/
def captureImage (speed : Speed) (s : State) : Image where
  windows := s.relay.windows
  table := s.probe.table
  poll := s.probe.poll
  actions := s.acts.entries
  lock := s.acts.lock
  protect := s.acts.protect
  zones := s.heat.records
  budget := s.heat.budget
  sequence := s.hpc.sequence
  ladder := s.hpc.ladder
  keypad := s.pad.record
  keymap := s.keymap.entries
  layerTimeout := s.keymap.layerTimeout
  planeMask := s.outs.planeMask
  foreground := s.outs.foreground
  indicator := s.outs.indicator
  ignore := s.errs.ignore
  speed := speed

/-- A store begins: the contents are captured and the claimed entry is kept (R169, R163). -/
def beginStore (tag : Tag) (speed : Speed) (s : State) : State :=
  { s with imageState := .storing (captureImage speed s) (some tag) (s.now + Config.storeBound) }

/-- The speed of a code (R169). -/
def speedOf (code : Byte) : Option Speed := if code = 0 then some .low else if code = 1 then some .high else none

/-- STORE_IMAGE at its owner: the state, then the code (R169). -/
def takeStoreImage (tag : Tag) (code : Byte) (s : State) : State :=
  if s.imageState.isStoring then answer tag 0x58 (.refuse .state) s
  else
    match speedOf code with
    | some v => beginStore tag v s
    | none => answer tag 0x58 (.refuse .badRequest) s

/-- STORE_IMAGE (R169). -/
def execStoreImage (tag : Tag) (code : Byte) (s : State) : Result := upon s fun s =>
  finish (takeFrame tag (takeStoreImage tag code) s)

/-- STORE_COMPLETE: the image is replaced, the state is VALID, the claimed entry is filled if it is still held (R169). -/
def execStoreComplete (s : State) : Result := upon s fun s =>
  match s.imageState with
  | .storing captured claim _ =>
    let s1 := { s with store := .image captured, imageState := .valid }
    match claim with
    | some tag => finish (placeReply { tag := tag, address := 0, status := .done, payload := [] } s1)
    | none => finish s1
  | .valid | .factory => finish s

/-! ### Power (R2, R170) -/

/-- The store after supply is lost: a store in progress leaves it damaged (R170). -/
def storeAfterLoss (s : State) : Store := if s.imageState.isStoring then .damaged else s.store

/-- Supply is lost: what is not in the store takes the values it would have at power-on (log 29). -/
def losePower (s : State) : State :=
  State.fresh .off Image.factory (storeAfterLoss s) .factory s.hpc.powerGood s.choice s.pending

/-- POWER_LOSS (R170). -/
def execPowerLoss (s : State) : Result := .next (losePower s)

/-- The image check has failed: IMAGE_FAULT (R170, R177). -/
def imageCheck (s : State) : State :=
  match s.store with
  | .damaged => recordError .imageFault {} s
  | .empty | .image _ => s

/-- Supply is applied: the blocks are filled from the store or from factory defaults (R2, R170). -/
def applyPower (s : State) : State :=
  let st := storeAfterLoss s
  imageCheck (State.fresh .loading st.tables st st.loadedState s.hpc.powerGood s.choice s.pending)

/-- POWER_ON (R170); while supplied, a loss comes first (log 5). -/
def execPowerOn (s : State) : Result := .next (applyPower s)

/-- Every valid channel joins the poll queue now (R60). -/
def queueChannels (s : State) : State :=
  { s with probe.chans := Vector.ofFn fun c : Channel =>
      if s.probe.table[c].valid then
        { ChannelState.initial with poll := .queued, due := some s.now, joined := some s.now }
      else ChannelState.initial }

/-- The HPC settles the host state: PREHEAT with auto_start, STANDBY without (R2). -/
def settleHost (s : State) : State := if s.hpc.sequence.autoStart then enterPreheat s else s

/-- The image load completes: the host state is settled, N computed, the first control period, the first scan and the layer
tick begin, the valid channels are queued (R2, R28, R60, R114, R126, R143, R170; log 17, log 18). -/
def completeLoad (s : State) : State :=
  let s1 := recomputeDebounce (settleHost { s with power := .running })
  let s2 := beginScan s1.now (startPeriod s1.now s1)
  arbitrate (queueChannels { s2 with keymap.nextTick := some (s2.now + Config.layerTick) })

/-- IMAGE_LOAD_COMPLETE (R2, R170): once after each power-on. -/
def execImageLoadComplete (s : State) : Result := upon s fun s =>
  if s.power = .loading then finish (completeLoad s) else finish s

/-! ### SUPERVISOR_RESET (R168) -/

/-- Step 1 at the Condition Unit and the Error and Counter Unit (R71, R177, R178). -/
def resetRecords (s : State) : State :=
  { s with flags := 0, errs := Errors.initial s.errs.ignore, counters := Counter.initial }

/-- Step 1 of SUPERVISOR_RESET, block by block (R168). In DRAIN's wait phase the abandoned relay's report that it is empty then
stands (R155); the reset itself leaves the HPC as it is (R2, R111, R168), and the HPC takes the report when the reset is over, before
anything else is taken (R18; `upon`, log 33, DEDUCED). -/
def resetBlocks (s : State) : State := resetRecords (resetRules (resetKeys (abandonRelay s)))

/-- Steps 2 and 3 of SUPERVISOR_RESET: both queues are emptied, and a pending restart whose reply is among those removed is
made (R168, R108). -/
def resetQueues (s : State) : State :=
  let s1 := flushQueues s
  if s.panel.replies.any Reply.restart then hostRestartReplyLeft s1 else s1

/-- SUPERVISOR_RESET at its owners (R168). -/
def applySupervisorReset (s : State) : State × Answer := (resetQueues (resetBlocks s), .done)

/-- SUPERVISOR_RESET (R168); its DONE reply is placed if the host state still delivers. -/
def execSupervisorReset (tag : Tag) (s : State) : Result := upon s fun s => supervisorOp tag 0x5F applySupervisorReset s

end Sys2Proof.Machine
end

