-- ==== Sys2Proof/Machine/Dispatch.lean ====
section
/-! DEFINITION. The meaning of every command: one arm per row of spec/opcode_table.json. -/

namespace Sys2Proof.Machine

open Sys2Proof

/-- The effect of a command on everything but the queue of waiting commands. -/
def exec (i : Instr) (s : State) : Host.Outcome State Fault Refusal :=
  match i with
  | .powerOn => Sys2Proof.Machine.execPowerOn s
  | .imageLoadComplete => Sys2Proof.Machine.execImageLoadComplete s
  | .read tag address length => Sys2Proof.Machine.execRead tag address length s
  | .write tag address data => Sys2Proof.Machine.execWrite tag address data s
  | .heartbeat tag seq => Sys2Proof.Machine.execHeartbeat tag seq s
  | .hostRestart tag kind => Sys2Proof.Machine.execHostRestart tag kind s
  | .shutdown tag keepWarm => Sys2Proof.Machine.execShutdown tag keepWarm s
  | .loadSequence tag payload => Sys2Proof.Machine.execLoadSequence tag payload s
  | .loadLadder tag payload => Sys2Proof.Machine.execLoadLadder tag payload s
  | .loadZone tag payload => Sys2Proof.Machine.execLoadZone tag payload s
  | .loadBudget tag payload => Sys2Proof.Machine.execLoadBudget tag payload s
  | .loadChannel tag payload => Sys2Proof.Machine.execLoadChannel tag payload s
  | .loadPoll tag payload => Sys2Proof.Machine.execLoadPoll tag payload s
  | .loadAction tag payload => Sys2Proof.Machine.execLoadAction tag payload s
  | .lockActions tag count protect => Sys2Proof.Machine.execLockActions tag count protect s
  | .flushActions tag => Sys2Proof.Machine.execFlushActions tag s
  | .loadWindow tag payload => Sys2Proof.Machine.execLoadWindow tag payload s
  | .loadKeypad tag payload requestFirst => Sys2Proof.Machine.execLoadKeypad tag payload requestFirst s
  | .loadKeymapEntry tag payload => Sys2Proof.Machine.execLoadKeymapEntry tag payload s
  | .loadKeymapSettings tag payload => Sys2Proof.Machine.execLoadKeymapSettings tag payload s
  | .clearLayers tag => Sys2Proof.Machine.execClearLayers tag s
  | .setFlags tag set clear => Sys2Proof.Machine.execSetFlags tag set clear s
  | .writeOutputs tag mode data => Sys2Proof.Machine.execWriteOutputs tag mode data s
  | .setOutputMask tag plane foreground indicator => Sys2Proof.Machine.execSetOutputMask tag plane foreground indicator s
  | .errorClear tag mask => Sys2Proof.Machine.execErrorClear tag mask s
  | .setIgnore tag mask => Sys2Proof.Machine.execSetIgnore tag mask s
  | .counterSelect tag counter event => Sys2Proof.Machine.execCounterSelect tag counter event s
  | .statusReadHost tag part => Sys2Proof.Machine.execStatusReadHost tag part s
  | .statusReadLog tag part index => Sys2Proof.Machine.execStatusReadLog tag part index s
  | .statusReadHeat tag part => Sys2Proof.Machine.execStatusReadHeat tag part s
  | .statusReadProbe tag part channel => Sys2Proof.Machine.execStatusReadProbe tag part channel s
  | .statusReadConditions tag part => Sys2Proof.Machine.execStatusReadConditions tag part s
  | .statusReadActions tag part set => Sys2Proof.Machine.execStatusReadActions tag part set s
  | .statusReadKeypad tag part => Sys2Proof.Machine.execStatusReadKeypad tag part s
  | .statusReadKeymap tag part layer position => Sys2Proof.Machine.execStatusReadKeymap tag part layer position s
  | .statusReadRelay tag part => Sys2Proof.Machine.execStatusReadRelay tag part s
  | .statusReadOutputs tag part => Sys2Proof.Machine.execStatusReadOutputs tag part s
  | .statusReadErrors tag part => Sys2Proof.Machine.execStatusReadErrors tag part s
  | .statusReadCounters tag part => Sys2Proof.Machine.execStatusReadCounters tag part s
  | .statusReadLink tag part => Sys2Proof.Machine.execStatusReadLink tag part s
  | .storeImage tag speed => Sys2Proof.Machine.execStoreImage tag speed s
  | .storeComplete => Sys2Proof.Machine.execStoreComplete s
  | .supervisorReset tag => Sys2Proof.Machine.execSupervisorReset tag s
  | .hostCheckFrame => Sys2Proof.Machine.execHostCheckFrame s
  | .malformedFrame tag opCode address => Sys2Proof.Machine.execMalformedFrame tag opCode address s
  | .frameLengthAbandon => Sys2Proof.Machine.execFrameLengthAbandon s
  | .frameIdleAbandon => Sys2Proof.Machine.execFrameIdleAbandon s
  | .transmitComplete => Sys2Proof.Machine.execTransmitComplete s
  | .preheatTimerExpiry => Sys2Proof.Machine.execPreheatTimerExpiry s
  | .soakTimerExpiry => Sys2Proof.Machine.execSoakTimerExpiry s
  | .powerGoodArrival rail => Sys2Proof.Machine.execPowerGoodArrival rail s
  | .pgTimeoutExpiry => Sys2Proof.Machine.execPgTimeoutExpiry s
  | .settleExpiry => Sys2Proof.Machine.execSettleExpiry s
  | .powerGoodFall rail => Sys2Proof.Machine.execPowerGoodFall rail s
  | .drainTimerExpiry => Sys2Proof.Machine.execDrainTimerExpiry s
  | .offSettleExpiry => Sys2Proof.Machine.execOffSettleExpiry s
  | .wakeEdge => Sys2Proof.Machine.execWakeEdge s
  | .bootWindowExpiry => Sys2Proof.Machine.execBootWindowExpiry s
  | .heartbeatTimerExpiry => Sys2Proof.Machine.execHeartbeatTimerExpiry s
  | .graceExpiry => Sys2Proof.Machine.execGraceExpiry s
  | .stableTimeReached => Sys2Proof.Machine.execStableTimeReached s
  | .resetPulseExpiry => Sys2Proof.Machine.execResetPulseExpiry s
  | .powerOffExpiry => Sys2Proof.Machine.execPowerOffExpiry s
  | .lockoutRetryExpiry => Sys2Proof.Machine.execLockoutRetryExpiry s
  | .controlPeriodStart => Sys2Proof.Machine.execControlPeriodStart s
  | .driveWindowEdge zone => Sys2Proof.Machine.execDriveWindowEdge zone s
  | .dueTimeReached channel => Sys2Proof.Machine.execDueTimeReached channel s
  | .fieldReply bytes resultFirst => Sys2Proof.Machine.execFieldReply bytes resultFirst s
  | .fieldTimeoutExpiry resultFirst => Sys2Proof.Machine.execFieldTimeoutExpiry resultFirst s
  | .cPortReplyGap => Sys2Proof.Machine.execCPortReplyGap s
  | .scanStart => Sys2Proof.Machine.execScanStart s
  | .scanComplete readings requestFirst => Sys2Proof.Machine.execScanComplete readings requestFirst s
  | .armDelayExpiry position => Sys2Proof.Machine.execArmDelayExpiry position s
  | .layerTick => Sys2Proof.Machine.execLayerTick s
  | .cPortRequestEnd => Sys2Proof.Machine.execCPortRequestEnd s
  | .powerLoss => Sys2Proof.Machine.execPowerLoss s

end Sys2Proof.Machine
end

