-- ==== Sys2Proof/Machine/Step.lean ====
section
/-! DEFINITION. The step: the command at the front of the queue, or on an empty queue the timebase, which raises a timed event
whose moment has come and otherwise advances (log 1, log 2). -/

namespace Sys2Proof.Machine

open Sys2Proof

/-- One event if it is due. -/
def whenDue (due : Bool) (i : Instr) : List Instr := if due then [i] else []

/-- A timer has reached its moment. -/
def expired (s : State) : Option Timer → Bool
  | some t => t.deadline ≤ s.now
  | none => false

/-- A moment has come. -/
def reached (s : State) : Option Nat → Bool
  | some t => t ≤ s.now
  | none => false

/-- The rail step in RAILS is in a phase whose time has run out (R12, R13). -/
def railStepDue (s : State) (phase : RailPhase) : Bool :=
  match s.hpc.railStep with
  | some st => s.hpc.host = .rails && st.phase = phase && expired s (some st.timer)
  | none => false

/-- The timed events of the Host Power Controller whose moments have come (chapters 1 and 6). -/
def dueHost (s : State) : List Instr :=
  whenDue ((s.hpc.host = .preheat || s.hpc.host = .soak) && expired s s.hpc.preheatTimer) .preheatTimerExpiry
  ++ whenDue (s.hpc.host = .soak && expired s s.hpc.soakTimer) .soakTimerExpiry
  ++ whenDue (railStepDue s .waitPg) .pgTimeoutExpiry
  ++ whenDue (railStepDue s .settle) .settleExpiry
  ++ whenDue (s.hpc.host = .drain && expired s s.hpc.drainTimer) .drainTimerExpiry
  ++ whenDue (s.hpc.host = .drain && expired s s.hpc.offSettleTimer) .offSettleExpiry
  ++ whenDue (s.hpc.host = .boot && expired s s.hpc.bootTimer) .bootWindowExpiry
  ++ whenDue (s.hpc.host = .run && expired s s.hpc.heartbeatTimer) .heartbeatTimerExpiry
  ++ whenDue (s.hpc.host = .warn && expired s s.hpc.graceTimer) .graceExpiry
  ++ whenDue (s.hpc.host.keysReported && expired s s.hpc.stableTimer) .stableTimeReached
  ++ whenDue (s.hpc.host = .restart && expired s s.hpc.pulseTimer) .resetPulseExpiry
  ++ whenDue (s.hpc.host = .powerCycle && expired s s.hpc.powerOffTimer) .powerOffExpiry
  ++ whenDue (s.hpc.host = .lockout && expired s s.hpc.retryTimer) .lockoutRetryExpiry

/-- A channel that waits or is in flight has reached its due time (R49). -/
def channelDue (s : State) (c : Channel) : Bool :=
  match s.probe.chans[c].poll with
  | .waiting | .inFlight => reached s s.probe.chans[c].due
  | .off | .queued | .inFlightDue => false

/-- The field timeout has run out (R149). -/
def fieldTimeoutDue (s : State) : Bool :=
  match s.relay.link with
  | some l => expired s l.timeout
  | none => false

/-- The latest moment of a store's completion has come (R169, log 19). -/
def storeDue (s : State) : Bool :=
  match s.imageState with
  | .storing _ _ bound => bound ≤ s.now
  | .valid | .factory => false

/-- The timed events whose moments have come. Either order of the two takes of a field timeout is offered (R150). -/
def timedEvents (s : State) : List Instr :=
  dueHost s
  ++ whenDue (reached s (s.heat.periodStart.map (· + Config.controlPeriod))) .controlPeriodStart
  ++ (allZones.filter (edgeReached s)).map .driveWindowEdge
  ++ ((List.finRange 16).filter (channelDue s)).map .dueTimeReached
  ++ whenDue (fieldTimeoutDue s) (.fieldTimeoutExpiry true)
  ++ whenDue (fieldTimeoutDue s) (.fieldTimeoutExpiry false)
  ++ whenDue (!s.pad.scanning && reached s s.pad.nextScan) .scanStart
  ++ whenDue (reached s s.keymap.nextTick) .layerTick
  ++ (allPositions.filter fun p => expired s ((s.keymap.positions[p]).arm.map Arm.timer)).map .armDelayExpiry
  ++ whenDue (storeDue s) .storeComplete

/-- One unit of the timebase passes. -/
def advanceTime (s : State) : State := { s with now := s.now + 1 }

/-- A timed event is raised: it is put into the queue. -/
def raiseEvent (i : Instr) (s : State) : State := { s with pending := [i] }

/-- What an idle step does under supply: the HPC takes a report of the relay's that stands (R18, log 33); with none, and no
timed event due, one unit of the timebase passes; otherwise one that is due is raised, in a free order (log 2). -/
def idleSupplied (s : State) : State :=
  if relayReportsEmpty s then beginRailOff s
  else
    match timedEvents s with
    | [] => advanceTime s
    | i :: rest =>
      let events := i :: rest
      raiseEvent (events.getD (Config.nextDue s.choice % events.length) i) { s with choice := s.choice + 1 }

/-- What the part does when no command waits (log 2): nothing without supply. -/
def idle (s : State) : State := if s.power = .off then s else idleSupplied s

/-- The step of the part. -/
def step (s : State) : Host.Outcome State Fault Refusal :=
  match s.pending with
  | i :: rest => exec i { s with pending := rest }
  | [] => .next (idle s)

/-- The state with the command a table word spells at the front of its queue; no row of the table gives bits, so no word
spells one (log 4). -/
def State.withFetchWord (s : State) (nbits w : Nat) : State :=
  match decodeTableWord nbits w with
  | some i => { s with pending := i :: s.pending }
  | none => s

end Sys2Proof.Machine
end

