-- ==== Sys2Proof/Safety.lean ====
section
/-! DEFINITION. What holds of the part at every moment: the laws the manual states of its blocks' state, as predicates that
claims are about. -/

namespace Sys2Proof.Machine

open Sys2Proof

/-! ### Taking a frame -/

/-- A frame sent now is taken: the receiver is enabled and an entry of the reply queue is unoccupied (R160, R162). -/
def Accepts (s : State) : Prop := s.hpc.host.delivers = true ∧ occupied s < Config.replyEntries

/-- No report of the relay's that it is empty stands for the HPC to take. One stands after a SUPERVISOR_RESET in DRAIN's wait
phase, until the next command or idle step (R155, R18; log 33); what a command does then, EveryCommandCompletes says. -/
def Calm (s : State) : Prop := ¬ (s.hpc.host = .drain ∧ s.hpc.railOff = false ∧ s.relay.queue = [])

/-- A frame sent now is taken, and nothing is taken before it. -/
def Ready (s : State) : Prop := Accepts s ∧ Calm s

/-- The state with a reply to a supervisor operation placed, its address 0, and the transmitter, if it was idle, begun on
the oldest reply (R163, R165). -/
def replied (tag : Tag) (st : Status) (payload : List Byte) (s : State) : State :=
  startTransmit (placeReply { tag := tag, address := 0, status := st, payload := payload } s)

/-- The state with BAD_REQUEST replied, and then recorded with tag and op code (R161; log 10). -/
def repliedBad (tag : Tag) (op : Byte) (s : State) : State :=
  startTransmit (recordError .badRequest { tag := some tag, opCode := some op }
    (placeReply { tag := tag, address := 0, status := .badRequest, payload := [] } s))

/-- How a LOAD operation with op code `op` is refused, its payload being `n` bytes of which `decodes` says that they spell a
record in range: a payload of another length is malformed (R161), STATE while the Image Store is storing, BAD_REQUEST
outside the ranges (R169 and the loading rules). -/
def LoadRefusals (tag : Tag) (op : Byte) (n : Nat) (decodes : List Byte → Bool) (load : List Byte → State → Result)
    (s : State) : Prop :=
  ∀ p : List Byte,
    (p.length ≠ n → load p s = .next (repliedBad tag op s))
    ∧ (p.length = n → s.imageState.isStoring = true → load p s = .next (replied tag .state [] s))
    ∧ (p.length = n → s.imageState.isStoring = false → decodes p = false → load p s = .next (repliedBad tag op s))

/-! ### A change of host state -/

/-- What a host restart event leaves (Table 0-4): the relay holds nothing and an in-flight transaction of it is an ORPHAN
(R155), both Frame Engine queues are empty, every claimed entry is released and transmission is cut off (R166), a frame
partly received is abandoned (R160), the heartbeat record and sequence are absent (R66, R95). -/
def silenced (s : State) : State :=
  { s with
    relay := { s.relay with
      queue := [], link := s.relay.link.map fun l => if l.use = .relay then { l with use := .orphan } else l }
    panel := { s.panel with
      replies := [], notices := [], tx := .idle
      partialFrame := if s.hpc.host.delivers then [] else s.panel.partialFrame }
    imageState := s.imageState.unclaim
    hpc := { s.hpc with beat := none, lastSeq := none } }

/-- The allocator once the host state is `new`: an immediate recomputation when the budget in force falls (R25). -/
def budgeted (new : HostState) (s : State) : Heat :=
  if s.heat.budget.inForce new < s.heat.budget.inForce s.hpc.host then
    (immediateRecompute { s with hpc := { s.hpc with host := new } }).heat
  else s.heat

/-- The keymap unit once the host has left RUN or WARN: no press is marked reported (R141). -/
def unreported (s : State) : Keymap :=
  if s.hpc.host.keysReported then
    { s.keymap with positions := vmap (fun p => { p with reported := false }) s.keymap.positions }
  else s.keymap

/-- The restart log with one more record, at most 8, and its sequence count (R110). -/
def logged (cause : RestartCause) (action : RestartAction) (hardLength softCount : Nat) (s : State) : Hpc :=
  let seq := (s.hpc.logSeq + 1) % 65536
  let r : LogRecord :=
    { sequence := seq, cause := cause, action := action, before := s.hpc.host, uptime := uptime s
      lowest := lowestEnabled s, hardLength := hardLength, softCount := softCount }
  { s.hpc with logSeq := seq, log := (s.hpc.log ++ [r]).drop (s.hpc.log.length + 1 - 8) }

/-- The reading of a gated zone that the cold-start gate uses (R5). -/
def gateValue (s : State) (z : Zone) : Option Int :=
  let c := s.heat.records[z].channel
  if s.probe.table[c].valid = true ∧ s.probe.table[c].kind = .temperature ∧ s.probe.chans[c].missing = false then
    s.probe.chans[c].last.map Sample.value
  else none

/-! ### Tables -/

/-- Every record an image holds is within its ranges (Tables 1-2, 2-1, 2-2, 3-1, 3-2, 5-2, 5-3, 6-2, 7-1, 8-2, 8-3, 9-1), and
each action table entry stands in the set of its key (R74). -/
def Image.Valid (i : Image) : Prop :=
  (∀ w : Fin 8, (i.windows[w]).inRange = true) ∧ (∀ c : Channel, (i.table[c]).inRange = true) ∧ i.poll.inRange = true
  ∧ (∀ k : Slot, ∀ e : ActionEntry, i.actions[k] = some e → e.inRange = true ∧ e.key % 8 = k.val / 4)
  ∧ (∀ z : Zone, (i.zones[z]).inRange = true) ∧ i.budget.inRange = true ∧ i.sequence.inRange = true
  ∧ i.ladder.inRange = true ∧ i.keypad.inRange = true ∧ (∀ k : KeySlot, (i.keymap[k]).inRange = true)
  ∧ layerTimeoutInRange i.layerTimeout = true

/-- The image that a store in progress writes, if one does. -/
def ImageState.captured : ImageState → Option Image
  | .storing i _ _ => some i
  | .valid | .factory => none

/-- The image in a store, if it holds one. -/
def Store.held : Store → Option Image
  | .image i => some i
  | .empty | .damaged => none

/-- The tables in force, the stored image and the image being written are within their ranges. -/
def TablesInRange (s : State) : Prop :=
  (captureImage .low s).Valid ∧ (∀ i, s.store.held = some i → i.Valid) ∧ (∀ i, s.imageState.captured = some i → i.Valid)

/-! ### Heater Allocator -/

/-- The allocation law of R34: the granted duties stay within 64 times the budget in force, none exceeds its request, and a
zone that is disabled or cut has none. -/
def AllocationLaw (s : State) : Prop :=
  demand (fun z => s.heat.zones[z].grant) (fun z => s.heat.records[z].current) ≤ 64 * budgetInForce s
  ∧ ∀ z : Zone, s.heat.zones[z].grant ≤ s.heat.zones[z].request
    ∧ (s.heat.records[z].enable = false ∨ s.heat.zones[z].cut = true → s.heat.zones[z].grant = 0)

/-- The runtime state of every zone is within Table 2-4, and a zone without a grant has its output off (R40). -/
def ZonesInRange (s : State) : Prop :=
  ∀ z : Zone, s.heat.zones[z].request ≤ 64 ∧ (∀ q, s.heat.zones[z].held = some q → q ≤ 64)
    ∧ s.heat.zones[z].holdCount ≤ 60 ∧ s.heat.zones[z].onStreak ≤ 255 ∧ s.heat.zones[z].restCount ≤ 60
    ∧ (s.heat.zones[z].grant = 0 → s.heat.zones[z].output = false)
    ∧ (s.heat.records[z].enable = false → s.heat.zones[z].request = 0)

/-! ### Host Power Controller -/

/-- A rail enable is asserted only in RAILS, BOOT, RUN, WARN, RESTART and DRAIN; the host reset line is asserted in every
state but BOOT, RUN, WARN and DRAIN's wait phase (R1); the off settle runs only in rail-off (R20). -/
def LinesLaw (s : State) : Prop :=
  (s.hpc.host.powered = false → s.hpc.enables = #v[false, false, false])
  ∧ (s.hpc.hostReset = true ↔ s.hpc.host.delivers = false ∨ (s.hpc.host = .drain ∧ s.hpc.railOff = true))
  ∧ (s.hpc.railOff = true → s.hpc.host = .drain)
  ∧ (s.hpc.offSettleTimer.isSome = true → s.hpc.railOff = true)

/-- Without supply and during the image load the host state is STANDBY (R2). -/
def SupplyLaw (s : State) : Prop := s.power ≠ .running → s.hpc.host = .standby

/-- A pending HOST_RESTART is held only in BOOT, RUN and WARN (R107, R108). -/
def PendingLaw (s : State) : Prop := s.hpc.pendingRestart.isSome = true → s.hpc.host.running = true

/-- The ladder's counts and lists stay within their sizes (R99, R103, R110). -/
def LadderLaw (s : State) : Prop :=
  s.hpc.softCount ≤ 3 ∧ s.hpc.hardList.length ≤ s.hpc.ladder.hardLimit ∧ s.hpc.log.length ≤ Config.logEntries
  ∧ s.hpc.logSeq < 65536

/-! ### Relay Unit and Frame Engine -/

/-- The relay holds at most 8 commands with distinct tags, the reply queue never more than 12 replies and reservations
together, the notice queue at most 16 (R148, R162, R165). -/
def QueueLaw (s : State) : Prop :=
  s.relay.queue.length ≤ Config.relayEntries ∧ (s.relay.queue.map RelayEntry.tag).Nodup
  ∧ occupied s ≤ Config.replyEntries ∧ s.panel.notices.length ≤ Config.noticeEntries

/-- Outside BOOT, RUN, WARN and DRAIN nothing waits for the host and nothing is transmitted: both queues are empty, the relay
holds no command, no entry is claimed, the transmitter is idle (R155, R164, R165, R166). -/
def SilenceLaw (s : State) : Prop :=
  s.hpc.host.delivers = false →
    s.panel.replies = [] ∧ s.panel.notices = [] ∧ s.relay.queue = [] ∧ storeClaim s = none ∧ s.panel.tx = .idle

/-- The transmitter sends only what the queues hold, replies before notices (R165). -/
def TransmitLaw (s : State) : Prop :=
  (s.panel.tx = .reply → s.panel.replies ≠ []) ∧ (s.panel.tx = .notice → s.panel.notices ≠ [])

/-- A relayed transaction is in flight only while the relay holds its command (R149). -/
def LinkLaw (s : State) : Prop := ∀ l, s.relay.link = some l → l.use = .relay → s.relay.queue ≠ []

/-! ### Action Table Unit -/

/-- The slots whose sample rule is tripped with a level action that `p` names. -/
def trippedSlots (s : State) (p : LevelAction) : List Slot :=
  allSlots.filter fun i =>
    match s.acts.entries[i] with
    | some (.sample r) => s.acts.rules[i].tripped && r.level = p
    | _ => false

/-- The counts held by other blocks are the numbers of tripped rules with that level action, and only a sample rule is
tripped (R33, R82, Table 11-2). -/
def CountLaw (s : State) : Prop :=
  (∀ z : Zone, s.heat.zones[z].cutDemand = (trippedSlots s (.cutZone z)).length)
  ∧ (∀ o : Fin 16, s.outs.forceOn[o] = (trippedSlots s (.forceOn o)).length)
  ∧ (∀ o : Fin 16, s.outs.forceOff[o] = (trippedSlots s (.forceOff o)).length)
  ∧ ∀ i : Slot, s.acts.rules[i].tripped = true → ∃ r, s.acts.entries[i] = some (.sample r)

/-! ### Keypad Scanner and Keymap Unit -/

/-- The debounce count N is always within D_base to D_max of the keypad record in force (R115). -/
def DebounceLaw (s : State) : Prop := s.pad.record.dBase ≤ s.pad.count ∧ s.pad.count ≤ s.pad.record.dMax

/-- The layer stack holds at most 6 entries, and a press is marked reported only in RUN and WARN (R130, R141). -/
def KeymapLaw (s : State) : Prop :=
  s.keymap.stack.length ≤ Config.stackEntries
  ∧ (s.hpc.host.keysReported = false → ∀ p : Position, s.keymap.positions[p].reported = false)

/-! ### Error and Counter Unit -/

/-- When the error detail is frozen, its class flag is set; MULTIPLE is set only while one is frozen (R174, R176). -/
def ErrorLaw (s : State) : Prop :=
  (∀ d, s.errs.detail = some d → s.errs.flags.getLsbD d.cls.bit.val = true)
  ∧ (s.errs.multiple = true → s.errs.detail.isSome = true)

/-- Both counts are 32-bit (R178). -/
def CounterLaw (s : State) : Prop := ∀ k : Fin 2, s.counters[k].count < 4294967296

/-! ### The whole -/

/-- Every law together. -/
structure Inv (s : State) : Prop where
  tables : TablesInRange s
  allocation : AllocationLaw s
  zones : ZonesInRange s
  supply : SupplyLaw s
  lines : LinesLaw s
  pendingRestart : PendingLaw s
  ladder : LadderLaw s
  queues : QueueLaw s
  silence : SilenceLaw s
  transmit : TransmitLaw s
  link : LinkLaw s
  counts : CountLaw s
  debounce : DebounceLaw s
  keymap : KeymapLaw s
  errors : ErrorLaw s
  counters : CounterLaw s

end Sys2Proof.Machine
end

