-- ==== Sys2Proof/Certificates/Slice0/Obligations.lean ====
section
/-! DEFINITION. The statements for the provers, from the manual's rules. -/

open Sys2Proof Sys2Proof.Machine

/-! ### The step, reset, completion -/

/-- A step with a command waiting is exec of the front command on the state with the queue's rest. -/
def Obligations.StepTakesTheFrontCommand : Prop :=
  ∀ (c : Instr) (rest : List Instr) (s : State), s.pending = c :: rest → step s = exec c { s with pending := rest }

/-- With no command waiting the part idles: without supply nothing changes. Under supply a report of the relay's that it is
empty, standing in DRAIN's wait phase, is taken and begins rail-off (R18); otherwise one unit of the timebase passes while no
timed event is due, and one that is due is put into the queue. Due is an event of a table row exactly when its timer or moment
has been reached in the host state, poll state or phase it belongs to; each row is named with its condition (R8, R10, R12, R13,
R19, R20, R28, R40, R49, R92, R97, R98, R99, R102, R104, R106, R114, R134, R137, R149, R169). The unit, the idle step and its
order, the moment a store completes, and the windows staying at an overdue period's end are the model's choices (log 1, log 2,
log 19, log 26); that a report is taken in this step is read by inference (log 33). -/
def Obligations.IdleStepAdvancesTimeOrRaisesDueEvent : Prop :=
  ∀ s : State, s.pending = [] →
    let h := s.hpc
    let ended (t : Option Timer) : Prop := ∃ x, t = some x ∧ x.start + x.span ≤ s.now
    let come (m : Option Nat) : Prop := ∃ x, m = some x ∧ x ≤ s.now
    let railStep (phase : RailPhase) : Prop :=
      h.host = .rails ∧ ∃ st, h.railStep = some st ∧ st.phase = phase ∧ st.timer.start + st.timer.span ≤ s.now
    let report : Prop := h.host = .drain ∧ h.railOff = false ∧ s.relay.queue = []
    (s.power = .off → step s = .next s)
    ∧ (s.power ≠ .off → report → step s = .next { s with hpc := { h with
        drainTimer := none, railOff := true, hostReset := true
        offSettleTimer := some { start := s.now, span := ms h.sequence.offSettle } } })
    ∧ (s.power ≠ .off → ¬ report → timedEvents s = [] → step s = .next { s with now := s.now + 1 })
    ∧ (s.power ≠ .off → ¬ report → timedEvents s ≠ [] →
        ∃ i ∈ timedEvents s, step s = .next { s with choice := s.choice + 1, pending := [i] })
    ∧ (∀ i : Instr, i ∈ timedEvents s ↔
      (i = .preheatTimerExpiry ∧ (h.host = .preheat ∨ h.host = .soak) ∧ ended h.preheatTimer)
      ∨ (i = .soakTimerExpiry ∧ h.host = .soak ∧ ended h.soakTimer)
      ∨ (i = .pgTimeoutExpiry ∧ railStep .waitPg)
      ∨ (i = .settleExpiry ∧ railStep .settle)
      ∨ (i = .drainTimerExpiry ∧ h.host = .drain ∧ ended h.drainTimer)
      ∨ (i = .offSettleExpiry ∧ h.host = .drain ∧ ended h.offSettleTimer)
      ∨ (i = .bootWindowExpiry ∧ h.host = .boot ∧ ended h.bootTimer)
      ∨ (i = .heartbeatTimerExpiry ∧ h.host = .run ∧ ended h.heartbeatTimer)
      ∨ (i = .graceExpiry ∧ h.host = .warn ∧ ended h.graceTimer)
      ∨ (i = .stableTimeReached ∧ (h.host = .run ∨ h.host = .warn) ∧ ended h.stableTimer)
      ∨ (i = .resetPulseExpiry ∧ h.host = .restart ∧ ended h.pulseTimer)
      ∨ (i = .powerOffExpiry ∧ h.host = .powerCycle ∧ ended h.powerOffTimer)
      ∨ (i = .lockoutRetryExpiry ∧ h.host = .lockout ∧ ended h.retryTimer)
      ∨ (i = .controlPeriodStart ∧ ∃ p, s.heat.periodStart = some p ∧ p + ms 1000 ≤ s.now)
      ∨ (∃ z : Zone, i = .driveWindowEdge z ∧ ∃ p, s.heat.periodStart = some p
          ∧ s.heat.zones[z].output ≠ inWindow z s.heat.zones[z].grant (min (s.now - p) 7999))
      ∨ (∃ c : Channel, i = .dueTimeReached c
          ∧ (s.probe.chans[c].poll = .waiting ∨ s.probe.chans[c].poll = .inFlight) ∧ come s.probe.chans[c].due)
      ∨ (∃ first : Bool, i = .fieldTimeoutExpiry first ∧ ∃ l, s.relay.link = some l ∧ ended l.timeout)
      ∨ (i = .scanStart ∧ s.pad.scanning = false ∧ come s.pad.nextScan)
      ∨ (i = .layerTick ∧ come s.keymap.nextTick)
      ∨ (∃ p : Position, i = .armDelayExpiry p ∧ ∃ a, s.keymap.positions[p].arm = some a
          ∧ a.timer.start + a.timer.span ≤ s.now)
      ∨ (i = .storeComplete ∧ ∃ image claim bound, s.imageState = .storing image claim bound ∧ bound ≤ s.now))

/-- The state after power-on with a store never written, before the image load completes (R2, R28, R60, R71, R89, R111, R126,
R143, R157, R170, R173, R177, R178; the channel states by Table 3-6); that reset stands there, and the power-good inputs'
level, are the model's choice (log 4, log 6), and the debounce count before the load, the empty receive buffer and the
values of log 32 are read by inference (log 32). -/
def Obligations.ResetHoldsThePowerOnValues : Prop :=
  let s := State.reset
  s.hpc.host = .standby ∧ s.hpc.enables = #v[false, false, false] ∧ s.hpc.hostReset = true ∧ s.hpc.suppress = false
  ∧ s.hpc.start = { kind := .none, uptime := 0, lowest := none, failedTests := 0 }
  ∧ s.hpc.preheatTimer = none ∧ s.hpc.soakTimer = none ∧ s.hpc.hardList = [] ∧ s.hpc.log = [] ∧ s.hpc.logSeq = 0
  ∧ s.hpc.softCount = 0 ∧ s.hpc.beat = none ∧ s.hpc.lastSeq = none ∧ s.hpc.pendingRestart = none
  ∧ s.hpc.powerGood = #v[false, false, false] ∧ s.hpc.railOff = false ∧ s.hpc.railStep = none
  ∧ s.hpc.drainTimer = none ∧ s.hpc.offSettleTimer = none ∧ s.hpc.bootTimer = none ∧ s.hpc.heartbeatTimer = none
  ∧ s.hpc.graceTimer = none ∧ s.hpc.stableTimer = none ∧ s.hpc.pulseTimer = none ∧ s.hpc.powerOffTimer = none
  ∧ s.hpc.retryTimer = none ∧ s.heat.periodStart = none ∧ s.pad.nextScan = none ∧ s.pad.scanning = false
  ∧ s.pad.basis = none ∧ s.keymap.nextTick = none
  ∧ (∀ z : Zone, s.heat.zones[z] = ZoneState.initial) ∧ s.heat.limited = false
  ∧ (∀ c : Channel, s.probe.chans[c] = ChannelState.initial) ∧ s.flags = 0
  ∧ (∀ i : Slot, s.acts.rules[i] = RuleState.clear ∧ s.acts.entries[i] = none) ∧ s.acts.lock = 0 ∧ s.acts.protect = false
  ∧ (∀ p : Position, s.pad.positions[p] = PadPosition.initial) ∧ s.pad.count = s.pad.record.dMax
  ∧ s.keymap.stack = [] ∧ (∀ p : Position, s.keymap.positions[p] = KeyPosition.initial)
  ∧ s.relay.queue = [] ∧ s.relay.link = none ∧ s.relay.lastServed = .poll ∧ s.relay.seq = 0
  ∧ s.panel = { partialFrame := [], replies := [], notices := [], tx := .idle, speed := .low } ∧ s.imageState = .factory
  ∧ s.outs.hostWord = 0 ∧ s.outs.planeMask = 0xFFFF ∧ s.errs = { flags := 0, ignore := 0, detail := none, multiple := false }
  ∧ s.counters = #v[{ select := .relayDone, count := 0 }, { select := .polls, count := 0 }]
  ∧ (∀ o : Fin 16, s.outs.forceOn[o] = 0 ∧ s.outs.forceOff[o] = 0) ∧ s.store = .empty ∧ s.now = 0
  ∧ captureImage .low s = Image.factory ∧ s.power = .loading ∧ s.pending = []

/-- Every law of Safety holds after reset: each law's rules stand at its definition in Safety.lean, and the sections they
are in are cited. Where reset stands is the model's choice (log 4). -/
def Obligations.ResetIsLawful : Prop := Inv State.reset

/-- No command stops the part, and none touches the queue of waiting commands; but for power-on and power loss the
timebase never goes back. A report of the relay's that stands is taken before any command, which acts as on the state where
rail-off has begun (R18, R155); that it is taken then is read by inference (log 33). -/
def Obligations.EveryCommandCompletes : Prop :=
  ∀ (c : Instr) (s : State), ∃ t, exec c s = .next t ∧ t.pending = s.pending ∧ t.choice = s.choice
    ∧ (c ≠ .powerOn → c ≠ .powerLoss → s.now ≤ t.now)
    ∧ (¬ Calm s → exec c s = exec c { s with hpc := { s.hpc with
        drainTimer := none, railOff := true, hostReset := true
        offSettleTimer := some { start := s.now, span := ms s.hpc.sequence.offSettle } } })

/-! ### Frames and payloads -/

/-- The CRC-16's check value, and frames written out byte by byte, read as the commands they spell (Tables 0-5, 10-1, 10-3). -/
def Obligations.WrittenFramesAreRead : Prop :=
  crc16 [0x31, 0x32, 0x33, 0x34, 0x35, 0x36, 0x37, 0x38, 0x39] = 0x29B1
  ∧ frameCommand 0 [0xA5, 0x03, 0x38, 0x00, 0x00, 0x02, 0x05, 0x0A, 0x3B, 0x5D] = some (.setFlags 3 0x05 0x0A)
  ∧ frameCommand 0 [0xA5, 0x02, 0x01, 0x30, 0x30, 0x01, 0x04, 0xB5, 0xF8] = some (.read 2 0x3030 4)
  ∧ frameCommand 0 [0xA5, 0x07, 0x50, 0x00, 0x00, 0x04, 0x08, 0x01, 0x02, 0x0A, 0x9E, 0x60]
      = some (.statusReadKeymap 7 1 2 10)
  ∧ frameCommand 0 [0xA5, 0x0F, 0x5F, 0x00, 0x00, 0x00, 0xD5, 0x20] = some (.supervisorReset 15)

/-- Every well-formed frame command is read back from the bytes of its frame (R159, Tables 10-1, 10-3). -/
def Obligations.EveryFrameReadsBack : Prop :=
  ∀ (i : Instr) (frame : List Byte) (order : BitVec 64), i.wellFormed = true → commandFrame i = some frame →
    (∀ tag p o, i = .loadKeypad tag p o → o = order) → frameCommand order frame = some i

/-- Every record in range is read back from the payload that spells it (R159; the layouts of log 14 to 16). -/
def Obligations.EveryLoadPayloadReadsBack : Prop :=
  (∀ r : SequenceRecord, r.inRange = true → readSequence (sequenceBytes r) = some r)
  ∧ (∀ r : LadderRecord, r.inRange = true → readLadder (ladderBytes r) = some r)
  ∧ (∀ l : ZoneLoad, l.record.inRange = true → readZone (zoneBytes l) = some l)
  ∧ (∀ r : BudgetRecord, r.inRange = true → readBudget (budgetBytes r) = some r)
  ∧ (∀ l : ChannelLoad, l.entry.inRange = true → readChannel (channelBytes l) = some l)
  ∧ (∀ r : PollRecord, r.inRange = true → readPoll (pollBytes r) = some r)
  ∧ (∀ l : ActionLoad, (∀ e, l.entry = some e → e.inRange = true ∧ e.key % 8 = l.set.val) →
      (l.entry = none → l.selector ≠ .any) → readAction (actionBytes l) = some l)
  ∧ (∀ l : WindowLoad, l.entry.inRange = true → readWindow (windowBytes l) = some l)
  ∧ (∀ r : KeypadRecord, r.inRange = true → readKeypad (keypadBytes r) = some r)
  ∧ (∀ l : KeymapLoad, l.entry.inRange = true → readKeymapEntry (keymapBytes l) = some l)
  ∧ (∀ t : Nat, layerTimeoutInRange t = true → readKeymapSettings (keymapSettingsBytes t) = some t)

/-- No payload is read as a record out of its ranges (0.5.7 and the loading rules). -/
def Obligations.NoPayloadReadsOutOfRange : Prop :=
  (∀ p r, readSequence p = some r → r.inRange = true) ∧ (∀ p r, readLadder p = some r → r.inRange = true)
  ∧ (∀ p l, readZone p = some l → l.record.inRange = true) ∧ (∀ p r, readBudget p = some r → r.inRange = true)
  ∧ (∀ p l, readChannel p = some l → l.entry.inRange = true) ∧ (∀ p r, readPoll p = some r → r.inRange = true)
  ∧ (∀ p l, readAction p = some l →
      (∀ e, l.entry = some e → e.inRange = true ∧ e.key % 8 = l.set.val) ∧ (l.entry = none → l.selector ≠ .any))
  ∧ (∀ p l, readWindow p = some l → l.entry.inRange = true) ∧ (∀ p r, readKeypad p = some r → r.inRange = true)
  ∧ (∀ p l, readKeymapEntry p = some l → l.entry.inRange = true)
  ∧ (∀ p t, readKeymapSettings p = some t → layerTimeoutInRange t = true)

/-- Frames that are not taken as their op's command: a length byte above 48 abandons, a wrong check discards, and a frame
with a right check is malformed when its kind is not COMMAND or bits 5-4 are not 0, when a supervisor operation's address is
not 0, when a READ does not carry one byte of 1 to 16, when a WRITE does not carry 1 to 16 bytes, when its op is not in
Table 10-3 or its length not one the table gives, and when a STATUS_READ's length does not suit its selector (R160, R161,
R167). A selector outside Table 10-8 is read as malformed, which gives the refusal R167 asks for (log 28). -/
def Obligations.BadFramesAreRecognised : Prop :=
  ∀ (order : BitVec 64) (h c a1 a0 : Byte) (p : List Byte), p.length ≤ 48 →
    let body := [h, c, a1, a0] ++ byte1 p.length ++ p
    let address := word16 [a1, a0] 0
    let malformed : Instr := .malformedFrame (Fin.ofNat 16 (h.toNat % 16)) c address
    (∀ n : Byte, ∀ rest, 48 < n.toNat → frameCommand order (0xA5 :: h :: c :: a1 :: a0 :: n :: rest) = some .frameLengthAbandon)
    ∧ (∀ k : Word, k ≠ crc16 body → frameCommand order (0xA5 :: body ++ wordBytes k) = some .hostCheckFrame)
    ∧ (16 ≤ h.toNat → frameCommand order (0xA5 :: withCheck body) = some malformed)
    ∧ (c ≠ 0x01 → c ≠ 0x02 → address ≠ 0 → frameCommand order (0xA5 :: withCheck body) = some malformed)
    ∧ (c = 0x01 → (∀ n, p = [n] → readLengthFits n = false) → frameCommand order (0xA5 :: withCheck body) = some malformed)
    ∧ (c = 0x02 → p = [] ∨ 16 < p.length → frameCommand order (0xA5 :: withCheck body) = some malformed)
    ∧ (let suits : List (Nat × Nat) :=
        [(0x10, 1), (0x11, 1), (0x12, 1), (0x13, 24), (0x14, 19), (0x20, 25), (0x21, 8), (0x22, 8), (0x23, 7), (0x24, 17),
          (0x25, 2), (0x26, 0), (0x28, 9), (0x30, 7), (0x31, 9), (0x31, 3), (0x32, 0), (0x38, 2), (0x40, 3), (0x41, 5),
          (0x48, 2), (0x49, 2), (0x4A, 2), (0x50, 2), (0x50, 3), (0x50, 4), (0x58, 1), (0x5F, 0)]
      c ≠ 0x01 → c ≠ 0x02 → (c.toNat, p.length) ∉ suits → frameCommand order (0xA5 :: withCheck body) = some malformed)
    ∧ (let arguments : List (Nat × Nat) :=
        [(0x01, 0), (0x02, 1), (0x03, 0), (0x04, 1), (0x05, 0), (0x06, 1), (0x07, 0), (0x08, 2), (0x09, 0), (0x0A, 0),
          (0x0B, 0), (0x0C, 0), (0x0D, 0)]
      ∀ (selector part : Byte) (rest : List Byte), c = 0x50 → p = selector :: part :: rest →
        (selector.toNat, rest.length) ∉ arguments → frameCommand order (0xA5 :: withCheck body) = some malformed)

/-! ### What every step keeps -/

/-- The allocation law holds at every moment (R34), with the zones' runtime state within Table 2-4. -/
def Obligations.StepKeepsTheAllocationLaw : Prop :=
  ∀ s t : State, TablesInRange s → ZonesInRange s → AllocationLaw s → step s = .next t → AllocationLaw t ∧ ZonesInRange t

/-- Every table, the stored image and the image being written stay within their ranges (0.5.7). -/
def Obligations.StepKeepsTablesInRange : Prop := ∀ s t : State, TablesInRange s → step s = .next t → TablesInRange t

/-- The relay, the reply queue and the notice queue stay within their sizes; outside BOOT, RUN, WARN and DRAIN nothing waits
for the host (R148, R155, R162, R165, R166). -/
def Obligations.StepKeepsTheQueueLaws : Prop :=
  ∀ s t : State, SupplyLaw s → QueueLaw s → SilenceLaw s → TransmitLaw s → LinkLaw s → step s = .next t →
    SupplyLaw t ∧ QueueLaw t ∧ SilenceLaw t ∧ TransmitLaw t ∧ LinkLaw t

/-- The rail enables and the host reset line follow the host state (R1), and a HOST_RESTART stays pending only in BOOT, RUN
and WARN (R108). -/
def Obligations.StepKeepsTheHostLines : Prop :=
  ∀ s t : State, SupplyLaw s → LinesLaw s → PendingLaw s → step s = .next t → SupplyLaw t ∧ LinesLaw t ∧ PendingLaw t

/-- The hard-restart list never holds more than the hard limit, the restart log at most 8 records, the soft-attempt count at
most 3 (R99, R103, R110). -/
def Obligations.StepKeepsTheLadderLaw : Prop :=
  ∀ s t : State, TablesInRange s → LadderLaw s → step s = .next t → LadderLaw t

/-- Each cut and force count equals the number of tripped rules whose level action names that zone or output (R82). -/
def Obligations.StepKeepsTheRuleCounts : Prop := ∀ s t : State, CountLaw s → step s = .next t → CountLaw t

/-- The layer stack holds at most 6 entries, and outside RUN and WARN no press is marked reported (R130, R141). -/
def Obligations.StepKeepsTheKeymapLaw : Prop := ∀ s t : State, KeymapLaw s → step s = .next t → KeymapLaw t

/-- A frozen detail's class flag is set, MULTIPLE stands only beside a frozen detail, and the counts stay 32-bit (R174, R178). -/
def Obligations.StepKeepsTheErrorLaw : Prop :=
  ∀ s t : State, ErrorLaw s → CounterLaw s → step s = .next t → ErrorLaw t ∧ CounterLaw t

/-- The debounce count: N is min(D_max, D_base + floor(max(0, -T) / step)) for the keypad zone's temperature in use, D_max
without one, and always within D_base to D_max of the record in force (R115). -/
def Obligations.DebounceCountFollowsTheColdRule : Prop :=
  (∀ (r : KeypadRecord) (t : Int), 1 ≤ r.step → (debounceCount r (some t) : Int) = min (r.dMax : Int) (r.dBase + max 0 (-t) / r.step))
  ∧ (∀ r : KeypadRecord, debounceCount r none = r.dMax)
  ∧ (∀ s : State, (recomputeDebounce s).pad.count = debounceCount s.pad.record (temperatureBasis s))
  ∧ (∀ (s : State) (z : Zone), s.pad.record.zone = some z →
      ((zoneReading s z).1 = .none → temperatureBasis s = none)
      ∧ ((zoneReading s z).1 ≠ .none → temperatureBasis s = (zoneReading s z).2 ∧ temperatureBasis s ≠ none))
  ∧ (∀ s : State, s.pad.record.zone = none → temperatureBasis s = none)
  ∧ (∀ s t : State, TablesInRange s → DebounceLaw s → step s = .next t → DebounceLaw t)

/-! ### Loading the tables -/

/-- Every LOAD operation refuses a payload of another length as malformed, refuses with STATE while the Image Store is
storing, and refuses with BAD_REQUEST what is out of range, leaving every table as it was (R161, R169, 0.5.7). That a term
with a payload of another length is the malformed frame, a settings payload given to the entry form among them, is the model's
choice (log 8); that bits beyond a mask's set and nonzero bytes of absent arguments are out of range is read by inference (log
21). That a refusal's reply is placed before its error is recorded is read by inference (log 10). -/
def Obligations.LoadsAreRefused : Prop :=
  ∀ (s : State) (tag : Tag), Ready s →
    LoadRefusals tag 0x13 24 (fun p => (readSequence p).isSome) (fun p => exec (.loadSequence tag p)) s
    ∧ LoadRefusals tag 0x14 19 (fun p => (readLadder p).isSome) (fun p => exec (.loadLadder tag p)) s
    ∧ LoadRefusals tag 0x20 25 (fun p => (readZone p).isSome) (fun p => exec (.loadZone tag p)) s
    ∧ LoadRefusals tag 0x21 8 (fun p => (readBudget p).isSome) (fun p => exec (.loadBudget tag p)) s
    ∧ LoadRefusals tag 0x22 8 (fun p => (readChannel p).isSome) (fun p => exec (.loadChannel tag p)) s
    ∧ LoadRefusals tag 0x23 7 (fun p => (readPoll p).isSome) (fun p => exec (.loadPoll tag p)) s
    ∧ LoadRefusals tag 0x24 17 (fun p => (readAction p).isSome) (fun p => exec (.loadAction tag p)) s
    ∧ LoadRefusals tag 0x28 9 (fun p => (readWindow p).isSome) (fun p => exec (.loadWindow tag p)) s
    ∧ (∀ order, LoadRefusals tag 0x30 7 (fun p => (readKeypad p).isSome) (fun p => exec (.loadKeypad tag p order)) s)
    ∧ LoadRefusals tag 0x31 9 (fun p => (readKeymapEntry p).isSome) (fun p => exec (.loadKeymapEntry tag p)) s
    ∧ LoadRefusals tag 0x31 3 (fun p => (readKeymapSettings p).isSome) (fun p => exec (.loadKeymapSettings tag p)) s

/-- A taken load of a record in range replaces it as a whole, replies DONE and changes nothing else: running timers keep their
duration and a hard-restart list longer than the new hard limit loses its oldest entries (R3, R4, R93, R94), due times and
stored intervals stay under a new poll record (R47), held commands keep their entry (R145), held keys their resolution (R129). A budget in force that falls is followed by an immediate
recomputation (R25, R26). -/
def Obligations.LoadsReplaceTheirTables : Prop :=
  ∀ (s : State) (tag : Tag), Ready s → s.imageState.isStoring = false →
    (∀ r : SequenceRecord, r.inRange = true →
      exec (.loadSequence tag (sequenceBytes r)) s = .next (replied tag .done [] { s with hpc.sequence := r }))
    ∧ (∀ r : LadderRecord, r.inRange = true →
      exec (.loadLadder tag (ladderBytes r)) s
        = .next (replied tag .done []
            { s with hpc.ladder := r, hpc.hardList := s.hpc.hardList.drop (s.hpc.hardList.length - r.hardLimit) }))
    ∧ (∀ r : PollRecord, r.inRange = true →
      exec (.loadPoll tag (pollBytes r)) s = .next (replied tag .done [] { s with probe.poll := r }))
    ∧ (∀ l : WindowLoad, l.entry.inRange = true →
      exec (.loadWindow tag (windowBytes l)) s
        = .next (replied tag .done [] { s with relay.windows := vset s.relay.windows l.window l.entry }))
    ∧ (∀ l : KeymapLoad, l.entry.inRange = true →
      exec (.loadKeymapEntry tag (keymapBytes l)) s
        = .next (replied tag .done []
            { s with keymap.entries := vset s.keymap.entries (keySlot l.layer l.position) l.entry }))
    ∧ (∀ n : Nat, layerTimeoutInRange n = true →
      exec (.loadKeymapSettings tag (keymapSettingsBytes n)) s
        = .next (replied tag .done [] { s with keymap.layerTimeout := n }))
    ∧ (∀ b : BudgetRecord, b.inRange = true →
      let s1 := { s with heat.budget := b }
      (s.heat.budget.inForce s.hpc.host ≤ b.inForce s.hpc.host →
        exec (.loadBudget tag (budgetBytes b)) s = .next (replied tag .done [] s1))
      ∧ (b.inForce s.hpc.host < s.heat.budget.inForce s.hpc.host →
        exec (.loadBudget tag (budgetBytes b)) s = .next (replied tag .done [] (immediateRecompute s1))))

/-- A taken LOAD_ZONE: an enabled record with the priority of another enabled zone is refused; otherwise the record is
replaced and its zone's request, grant, output, on-streak and rest count are cleared, the held request and hold count with
them if the channel changes. Nothing else changes, cut demand count and cut flag among it (R23, R24). That a refusal's reply
is placed before its error is recorded is read by inference (log 10). -/
def Obligations.LoadZoneReplacesTheRecordAndClearsTheZone : Prop :=
  ∀ (s : State) (tag : Tag) (l : ZoneLoad), Ready s → s.imageState.isStoring = false → l.record.inRange = true →
    let taken : Prop := l.record.enable = true ∧ ∃ z : Zone, z ≠ l.zone ∧ s.heat.records[z].enable = true
      ∧ s.heat.records[z].priority = l.record.priority
    let same : Bool := s.heat.records[l.zone].channel = l.record.channel
    let x := s.heat.zones[l.zone]
    let y : ZoneState :=
      { working := x.working, request := 0, held := if same then x.held else none
        holdCount := if same then x.holdCount else 0, cutDemand := x.cutDemand, cut := x.cut, grant := 0, onStreak := 0
        restCount := 0, output := false }
    (taken → exec (.loadZone tag (zoneBytes l)) s = .next (repliedBad tag 0x20 s))
    ∧ (¬ taken → exec (.loadZone tag (zoneBytes l)) s
        = .next (replied tag .done []
            { s with heat := { s.heat with
                records := vset s.heat.records l.zone l.record, zones := vset s.heat.zones l.zone y } }))

/-- A taken LOAD_CHANNEL: the entry is replaced, a poll of the channel in flight no longer belongs to it, the channel is
queued now or OFF, and its sample state is cleared when the source changes and kept otherwise, the channel becoming missing
when its misses have reached the new limit. The arbiter is asked after it (R45, R46, R57). Two orders are the model's choice:
a missing episode begun by the load comes before the arbiter's grant (log 34), and the DONE reply is placed after the notices
of that episode, which shows at an idle transmitter (log 38). -/
def Obligations.LoadChannelReschedulesTheChannel : Prop :=
  ∀ (s : State) (tag : Tag) (l : ChannelLoad), Ready s → s.imageState.isStoring = false → l.entry.inRange = true →
    let c := l.channel
    let old := s.probe.table[c]
    let new := l.entry
    let x := s.probe.chans[c]
    let source : Prop := old.valid = false ∨ new.valid = false ∨ old.module ≠ new.module ∨ old.register ≠ new.register
      ∨ old.kind ≠ new.kind
    let soon : Option Nat := if new.valid then some s.now else none
    let y : ChannelState :=
      { poll := if new.valid then .queued else .off, due := soon, joined := soon, interval := none
        last := x.last, misses := x.misses, missing := x.missing }
    let loaded (y : ChannelState) : State :=
      { s with
        probe := { s.probe with table := vset s.probe.table c new, chans := vset s.probe.chans c y }
        relay.link := s.relay.link.map fun k => if k.use = .poll c true then { k with use := .poll c false } else k }
    (source → exec (.loadChannel tag (channelBytes l)) s
      = .next (replied tag .done [] (arbitrate (loaded { y with last := none, misses := 0, missing := false }))))
    ∧ (¬ source → x.missing = true ∨ x.misses < new.staleLimit →
      exec (.loadChannel tag (channelBytes l)) s = .next (replied tag .done [] (arbitrate (loaded y))))
    ∧ (¬ source → x.missing = false → new.staleLimit ≤ x.misses →
      exec (.loadChannel tag (channelBytes l)) s
        = .next (replied tag .done [] (arbitrate (staleReport c
            (recordError .probeMissing { index := some c.val } (loaded { y with missing := true }))))))

/-- A taken LOAD_ACTION: LOCKED for a way below the lock count, TABLE_FULL for ANY without a free unlocked way, and otherwise
the entry goes to the way named or to the lowest free unlocked one; a tripped rule's level action there is released, the
runtime state cleared, and a rule on a missing channel starts its episode (R76, R77). -/
def Obligations.LoadActionChoosesItsWay : Prop :=
  ∀ (s : State) (tag : Tag) (l : ActionLoad), Ready s → s.imageState.isStoring = false →
    (∀ e, l.entry = some e → e.inRange = true ∧ e.key % 8 = l.set.val) → (l.entry = none → l.selector ≠ .any) →
    let free (w : Fin 4) : Prop := s.acts.lock ≤ w ∧ s.acts.entries[slotOf l.set w] = none
    let result (w : Fin 4) : State :=
      let i := slotOf l.set w
      let s1 := match s.acts.entries[i] with
        | some (.sample r) => if s.acts.rules[i].tripped then releaseLevel r.level s else s
        | _ => s
      let s2 := { s1 with acts := { s1.acts with
        entries := vset s.acts.entries i l.entry, rules := vset s.acts.rules i RuleState.clear } }
      match l.entry with
      | some (.sample r) => if s.probe.chans[r.channel].missing then staleRule i r s2 else s2
      | _ => s2
    let done (w : Fin 4) : Result := .next (replied tag .done (byte1 l.set.val ++ byte1 w.val) (result w))
    (∀ w : Fin 4, l.selector = .way w → w < s.acts.lock →
      exec (.loadAction tag (actionBytes l)) s = .next (replied tag .locked [] s))
    ∧ (∀ w : Fin 4, l.selector = .way w → s.acts.lock ≤ w → exec (.loadAction tag (actionBytes l)) s = done w)
    ∧ (l.selector = .any → (∀ w, ¬ free w) → exec (.loadAction tag (actionBytes l)) s = .next (replied tag .tableFull [] s))
    ∧ (∀ w : Fin 4, l.selector = .any → free w → (∀ v < w, ¬ free v) →
      exec (.loadAction tag (actionBytes l)) s = done w)

/-- A taken LOAD_KEYPAD: the record is replaced and N recomputed from it; unless ghost masking goes from 1 to 0 nothing else
changes. When it does, every MASKED position becomes CLOSED and every OPENING one that was MASKED is to return to CLOSED,
each with a press; every other position keeps its scan state (R113, R125). -/
def Obligations.LoadKeypadRecomputesTheCount : Prop :=
  ∀ (s : State) (tag : Tag) (r : KeypadRecord) (order : BitVec 64), Ready s → s.imageState.isStoring = false →
    r.inRange = true →
    let basis : Option Int := match r.zone with
      | some z => (zoneReading s z).2
      | none => none
    let n := debounceCount r basis
    let s1 := { s with pad := { s.pad with record := r, basis := basis, count := n } }
    (s.pad.record.ghostMasking = false ∨ r.ghostMasking = true →
      exec (.loadKeypad tag (keypadBytes r) order) s = .next (replied tag .done (byte1 n) s1))
    ∧ (s.pad.record.ghostMasking = true → r.ghostMasking = false →
      let masked (p : Position) : Bool := s.pad.positions[p].state = .masked
        || (s.pad.positions[p].state = .opening && s.pad.positions[p].previous = some .masked)
      ∃ t, exec (.loadKeypad tag (keypadBytes r) order) s = .next t
        ∧ t.pad.record = r ∧ t.pad.basis = basis ∧ t.pad.count = n ∧ t.pad.nextScan = s.pad.nextScan
        ∧ t.pad.scanning = s.pad.scanning
        ∧ (∀ p : Position, masked p = false → t.pad.positions[p] = s.pad.positions[p]
            ∧ t.keymap.positions[p].resolution = s.keymap.positions[p].resolution
            ∧ t.keymap.positions[p].code = s.keymap.positions[p].code)
        ∧ (∀ p : Position, s.pad.positions[p].state = .masked →
            t.pad.positions[p] = { s.pad.positions[p] with state := .closed })
        ∧ (∀ p : Position, s.pad.positions[p].state = .opening → s.pad.positions[p].previous = some .masked →
            t.pad.positions[p] = { s.pad.positions[p] with previous := some .closed })
        ∧ (∀ p : Position, masked p = true → t.keymap.positions[p].resolution.isSome = true)
        ∧ (t.hpc.host.delivers = true →
            t.panel.replies = s.panel.replies ++ [{ tag := tag, address := 0, status := .done, payload := byte1 n }]))

/-! ### Flags, outputs, errors, counters -/

/-- SET_FLAGS taken: every flag takes its new value from the two masks, a set bit winning; the reply gives the four flags. A
bit above the low four refuses it. Nothing else changes (R72). That a refusal's reply is placed before its error is recorded
is read by inference (log 10). -/
def Obligations.SetFlagsWritesTheFourFlags : Prop :=
  ∀ (s : State) (tag : Tag) (set clear : Byte), Ready s →
    (set.toNat < 16 → clear.toNat < 16 → ∃ f : BitVec 4,
      (∀ i : Fin 4, f.getLsbD i = (set.getLsbD i || (s.flags.getLsbD i && !clear.getLsbD i)))
      ∧ exec (.setFlags tag set clear) s = .next (replied tag .done (byte1 f.toNat) { s with flags := f }))
    ∧ (16 ≤ set.toNat ∨ 16 ≤ clear.toNat → exec (.setFlags tag set clear) s = .next (repliedBad tag 0x38 s))

/-- WRITE_OUTPUTS and SET_OUTPUT_MASK taken: DIRECT and STIPPLE write the host word bit by bit, the reply gives the host word
and the effective word after the write; the mask operation replaces its three fields. Other modes and enables are refused.
Nothing else changes (R172). That a refusal's reply is placed before its error is recorded is read by inference (log 10). -/
def Obligations.OutputWritesActBitByBit : Prop :=
  ∀ (s : State) (tag : Tag), Ready s →
    (∀ (mode : Byte) (data : Word),
      let direct : Word := wordOf fun o =>
        if s.outs.planeMask.getLsbD o then data.getLsbD o else s.outs.hostWord.getLsbD o
      let stipple : Word := wordOf fun o =>
        if s.outs.planeMask.getLsbD o && data.getLsbD o then s.outs.foreground.getLsbD o else s.outs.hostWord.getLsbD o
      let written (w : Word) : Result :=
        let t := { s with outs := { s.outs with hostWord := w } }
        .next (replied tag .done (wordBytes w ++ wordBytes (effectiveWord t)) t)
      (mode = 0 → exec (.writeOutputs tag mode data) s = written direct)
      ∧ (mode = 1 → exec (.writeOutputs tag mode data) s = written stipple)
      ∧ (2 ≤ mode.toNat → exec (.writeOutputs tag mode data) s = .next (repliedBad tag 0x40 s)))
    ∧ (∀ (plane foreground : Word) (indicator : Byte),
      (indicator.toNat ≤ 1 → exec (.setOutputMask tag plane foreground indicator) s
        = .next (replied tag .done []
            { s with outs := { s.outs with
              planeMask := plane, foreground := foreground, indicator := decide (indicator = 1) } }))
      ∧ (2 ≤ indicator.toNat → exec (.setOutputMask tag plane foreground indicator) s = .next (repliedBad tag 0x41 s)))

/-- The effective value of an output, in the precedence of R171: forced on, forced off, the layer indicator of outputs 6 and 7
(lower and higher digit of the current layer, R142), the host word's bit; and the effective word is these sixteen values. -/
def Obligations.EffectiveOutputFollowsThePrecedence : Prop :=
  ∀ (s : State) (o : Fin 16),
    let layer : Nat := match s.keymap.stack with
      | top :: _ => top.layer.val
      | [] => 0
    let on := effectiveOutput s o
    (0 < s.outs.forceOn[o] → on = true)
    ∧ (s.outs.forceOn[o] = 0 → 0 < s.outs.forceOff[o] → on = false)
    ∧ (s.outs.forceOn[o] = 0 → s.outs.forceOff[o] = 0 → s.outs.indicator = true → o = 6 → (on = true ↔ layer % 2 = 1))
    ∧ (s.outs.forceOn[o] = 0 → s.outs.forceOff[o] = 0 → s.outs.indicator = true → o = 7 → (on = true ↔ 2 ≤ layer))
    ∧ (s.outs.forceOn[o] = 0 → s.outs.forceOff[o] = 0 → s.outs.indicator = false ∨ (o ≠ 6 ∧ o ≠ 7) →
        on = s.outs.hostWord.getLsbD o)
    ∧ (effectiveWord s).getLsbD o = on

/-- Recording an error: an ignored class changes nothing; without a frozen detail the flag is set, the detail frozen with
class, time and fields, and the ERROR notice handed on; with one the flag and MULTIPLE are set (R174, R175). A handed notice
joins the queue, an idle transmitter beginning a frame at once (R165), is not generated outside BOOT, RUN, WARN and DRAIN, and
for a full queue counts NOTICES_LOST and sets NOTICE_LOST, a freeze by which leaves MULTIPLE set (R164). -/
def Obligations.ErrorsFreezeOnceAndNoticesQueue : Prop :=
  ∀ s : State,
    (∀ (c : ErrorClass) (f : ErrorFields),
      let flags := s.errs.flags ||| oneBit c.bit
      let d : ErrorDetail := { cls := c, time := s.now / 8 % 4294967296, fields := f }
      (s.errs.ignore.getLsbD c.bit = true → recordError c f s = s)
      ∧ (s.errs.ignore.getLsbD c.bit = false → s.errs.detail = none →
          recordError c f s = handNotice (.error d flags) { s with errs := { s.errs with flags := flags, detail := some d } })
      ∧ (s.errs.ignore.getLsbD c.bit = false → s.errs.detail ≠ none →
          recordError c f s = { s with errs := { s.errs with flags := flags, multiple := true } }))
    ∧ (∀ n : Notice,
      (s.hpc.host.delivers = false → handNotice n s = s)
      ∧ (s.hpc.host.delivers = true → s.panel.notices.length < 16 →
          handNotice n s = startTransmit { s with panel := { s.panel with notices := s.panel.notices ++ [n] } })
      ∧ (s.hpc.host.delivers = true → 16 ≤ s.panel.notices.length →
          let t := handNotice n s
          let lost (e : Errors) (drops : State) : State := { drops with errs := e }
          (s.errs.ignore.getLsbD 11 = true → t = countEvent .noticesLost s)
          ∧ (s.errs.ignore.getLsbD 11 = false → s.errs.detail ≠ none →
              t = lost { s.errs with flags := s.errs.flags ||| 0x0800#16, multiple := true } (countEvent .noticesLost s))
          ∧ (s.errs.ignore.getLsbD 11 = false → s.errs.detail = none →
              t = lost { s.errs with
                    flags := s.errs.flags ||| 0x0800#16, multiple := true
                    detail := some { cls := .noticeLost, time := s.now / 8 % 4294967296
                                     fields := { index := some n.code } } }
                  (countEvent .noticesLost (countEvent .noticesLost s)))))

/-- ERROR_CLEAR taken: the masked flags are cleared, the detail and MULTIPLE when the frozen class is among them; the reply
gives the flags left. SET_IGNORE taken: STATE while the Image Store is storing, otherwise the mask is replaced and flags and
detail stay (R176). -/
def Obligations.ErrorClearAndSetIgnore : Prop :=
  ∀ (s : State) (tag : Tag) (mask : Word), Ready s →
    let frozen : Bool := match s.errs.detail with
      | some d => mask.getLsbD d.cls.bit
      | none => false
    let e : Errors :=
      { flags := s.errs.flags &&& ~~~mask, ignore := s.errs.ignore
        detail := if frozen then none else s.errs.detail, multiple := s.errs.multiple && !frozen }
    exec (.errorClear tag mask) s = .next (replied tag .done (wordBytes e.flags) { s with errs := e })
    ∧ (s.imageState.isStoring = true → exec (.setIgnore tag mask) s = .next (replied tag .state [] s))
    ∧ (s.imageState.isStoring = false →
        exec (.setIgnore tag mask) s = .next (replied tag .done [] { s with errs := { s.errs with ignore := mask } }))

/-- The two counters: an event increments, wrapping at 32 bits, exactly the counters that select it; COUNTER_SELECT replaces a
select and zeroes its count, and refuses other counters and codes; power-on and SUPERVISOR_RESET set both to 0, counter 0 on
RELAY_DONE and counter 1 on POLLS (R178). That a refusal's reply is placed before its error is recorded is read by inference
(log 10). -/
def Obligations.CountersCountTheirSelectedEvent : Prop :=
  (∀ (s : State) (e : CounterEvent),
    (∀ k : Fin 2, (countEvent e s).counters[k] =
      { select := s.counters[k].select
        count := if s.counters[k].select = e then (s.counters[k].count + 1) % 4294967296 else s.counters[k].count })
    ∧ countEvent e s = { s with counters := (countEvent e s).counters })
  ∧ (∀ (s : State) (tag : Tag), Ready s →
    (∀ (k : Fin 2) (e : CounterEvent),
      exec (.counterSelect tag (BitVec.ofNat 8 k.val) (BitVec.ofNat 8 e.code)) s
        = .next (replied tag .done [] { s with counters := vset s.counters k { select := e, count := 0 } }))
    ∧ (∀ k e : Byte, 2 ≤ k.toNat ∨ 11 ≤ e.toNat →
      exec (.counterSelect tag k e) s = .next (repliedBad tag 0x4A s)))
  ∧ (let first : Vector Counter 2 := #v[{ select := .relayDone, count := 0 }, { select := .polls, count := 0 }]
    ∀ s : State, (∃ t, exec .powerOn s = .next t ∧ t.counters = first)
      ∧ (∀ tag : Tag, Accepts s → ∃ t, exec (.supervisorReset tag) s = .next t ∧ t.counters = first))

/-! ### The action table's operations -/

/-- LOCK_ACTIONS taken, its checks in order: STATE while storing, BAD_REQUEST for a count or protect value out of range,
LOCKED for another count under protection, BAD_REQUEST for a lower count; otherwise the count and the protect flag are set and
the reply gives both. Nothing else changes (R87). That a refusal's reply is placed before its error is recorded is read by
inference (log 10). -/
def Obligations.LockActionsChecksInOrder : Prop :=
  ∀ (s : State) (tag : Tag) (k p : Byte), Ready s →
    let inRange : Prop := 1 ≤ k.toNat ∧ k.toNat ≤ 3 ∧ p.toNat ≤ 1
    let held : Prop := s.acts.protect = true ∧ k.toNat ≠ s.acts.lock.val
    (s.imageState.isStoring = true → exec (.lockActions tag k p) s = .next (replied tag .state [] s))
    ∧ (s.imageState.isStoring = false → ¬ inRange → exec (.lockActions tag k p) s = .next (repliedBad tag 0x25 s))
    ∧ (s.imageState.isStoring = false → inRange → held →
        exec (.lockActions tag k p) s = .next (replied tag .locked [] s))
    ∧ (s.imageState.isStoring = false → inRange → ¬ held → k.toNat < s.acts.lock.val →
        exec (.lockActions tag k p) s = .next (repliedBad tag 0x25 s))
    ∧ (s.imageState.isStoring = false → inRange → ¬ held → s.acts.lock.val ≤ k.toNat →
        let protect : Bool := s.acts.protect || decide (p = 1)
        exec (.lockActions tag k p) s
          = .next (replied tag .done [k, if protect then 1 else 0]
              { s with acts := { s.acts with lock := Fin.ofNat 4 k.toNat, protect := protect } }))

/-- FLUSH_ACTIONS taken: STATE while storing; otherwise every way, or under protection every way at or above the lock count, is
invalidated with its runtime state, tripped rules releasing their level actions; the lock count is cleared without
protection; the reply gives the number of valid entries invalidated and the lock count (R88). -/
def Obligations.FlushActionsInvalidatesTheUnlockedWays : Prop :=
  ∀ (s : State) (tag : Tag), Ready s →
    (s.imageState.isStoring = true → exec (.flushActions tag) s = .next (replied tag .state [] s))
    ∧ (s.imageState.isStoring = false →
      let gone (i : Slot) : Bool := !s.acts.protect || decide (s.acts.lock.val ≤ i.val % 4)
      let released (a : LevelAction) : Nat := ((trippedSlots s a).filter gone).length
      let lock : Fin 4 := if s.acts.protect then s.acts.lock else 0
      let n := (allSlots.filter fun i => gone i && s.acts.entries[i].isSome).length
      exec (.flushActions tag) s
        = .next (replied tag .done (byte1 n ++ byte1 lock.val)
            { s with
              acts := { s.acts with
                entries := Vector.ofFn fun i : Slot => if gone i then none else s.acts.entries[i]
                rules := Vector.ofFn fun i : Slot => if gone i then RuleState.clear else s.acts.rules[i]
                lock := lock }
              heat := { s.heat with
                zones := Vector.ofFn fun z : Zone =>
                  { s.heat.zones[z] with cutDemand := s.heat.zones[z].cutDemand - released (.cutZone z) } }
              outs := { s.outs with
                forceOn := Vector.ofFn fun o : Fin 16 => s.outs.forceOn[o] - released (.forceOn o)
                forceOff := Vector.ofFn fun o : Fin 16 => s.outs.forceOff[o] - released (.forceOff o) } }))

/-- A good sample at one rule of its channel: an inactive rule is cleared silently; an active tripped one clears by the clear
test, an active untripped one trips by the trip test; a trip sets tripped, counts to at most 255, applies the level action
and runs the edge action; the release undoes the application; a reporting rule then hands its SAMPLE notice (R78 to R83). At
the start of a missing episode an active rule of policy TRIP trips with cause STALE, HOLD keeps its state; the episode visits
the valid sample rules keyed to the channel, in ascending way order of its set (R74, R84). -/
def Obligations.SampleRulesTripAndClear : Prop :=
  (∀ (s : State) (c : Channel),
    let visit (w : Fin 4) (u : State) : State :=
      let i : Slot := ⟨c.val % 8 * 4 + w.val, by omega⟩
      match u.acts.entries[i] with
      | some (.sample r) => if r.channel = c then staleRule i r u else u
      | _ => u
    staleReport c s = visit 3 (visit 2 (visit 1 (visit 0 s))))
  ∧ ∀ (s : State) (i : Slot) (r : SampleRule), s.acts.entries[i] = some (.sample r) → ∀ v : Int,
    let x := s.acts.rules[i]
    let setTo (y : RuleState) : State := { s with acts := { s.acts with rules := vset s.acts.rules i y } }
    let cleared := releaseLevel r.level (setTo { tripped := false, trips := x.trips })
    let tripped := applyLevel r.level (setTo { tripped := true, trips := min (x.trips + 1) 255 })
    let edge (cause : TripCause) (value : Option Int) (t : State) : State := match r.edge with
      | .none => t
      | .setFlag f => { t with flags := t.flags ||| (1#4 <<< f.val) }
      | .clearFlag f => { t with flags := t.flags &&& ~~~(1#4 <<< f.val) }
      | .notify => handNotice (.rule i r.channel cause value (min (x.trips + 1) 255)) t
    let report (t : State) : State :=
      if r.report then handNotice (.sample i r.channel v t.acts.rules[i].tripped) t else t
    let trips : Prop := (r.compare = .above ∧ r.threshold < v) ∨ (r.compare = .below ∧ v < r.threshold)
    let clears : Prop := (r.compare = .above ∧ v ≤ r.threshold - r.hysteresis)
      ∨ (r.compare = .below ∧ r.threshold + r.hysteresis ≤ v)
    let t := evaluateSlot r.channel v s i
    (condition s r.condition = false → x.tripped = true → t = cleared)
    ∧ (condition s r.condition = false → x.tripped = false → t = s)
    ∧ (condition s r.condition = true → x.tripped = true → clears → t = report cleared)
    ∧ (condition s r.condition = true → x.tripped = true → ¬ clears → t = report s)
    ∧ (condition s r.condition = true → x.tripped = false → trips → t = report (edge .sample (some v) tripped))
    ∧ (condition s r.condition = true → x.tripped = false → ¬ trips → t = report s)
    ∧ (∀ c : Channel, c ≠ r.channel → evaluateSlot c v s i = s)
    ∧ (condition s r.condition = false → x.tripped = true → staleRule i r s = cleared)
    ∧ (condition s r.condition = false → x.tripped = false → staleRule i r s = s)
    ∧ (condition s r.condition = true → r.stale = .hold ∨ x.tripped = true → staleRule i r s = s)
    ∧ (condition s r.condition = true → r.stale = .trip → x.tripped = false →
        staleRule i r s = edge .stale (s.probe.chans[r.channel].last.map Sample.value) tripped)
    ∧ (∀ u : State, releaseLevel r.level (applyLevel r.level u) = u)
    ∧ (∀ z : Zone, r.level = .cutZone z → tripped.heat.zones[z].cutDemand = s.heat.zones[z].cutDemand + 1)
    ∧ (∀ o : Fin 16, r.level = .forceOn o → tripped.outs.forceOn[o] = s.outs.forceOn[o] + 1)
    ∧ (∀ o : Fin 16, r.level = .forceOff o → tripped.outs.forceOff[o] = s.outs.forceOff[o] + 1)

/-! ### Layers and keys -/

/-- CLEAR_LAYERS taken empties the stack and replies the number removed; a layer tick ages every entry by 100 ms up to
60,000, then the termination check runs, and the next tick is 100 ms later; an arm delay's expiry pushes the captured
fields, or records LAYER_OVERFLOW on a full stack, without a check. Nothing else changes (R134, R135, R137, R139). The moment at which an expiry command acts is the
model's choice (log 3). -/
def Obligations.LayerEventsActOnTheStack : Prop :=
  ∀ s : State,
    (∀ tag : Tag, Ready s → exec (.clearLayers tag) s
      = .next (replied tag .done (byte1 s.keymap.stack.length) { s with keymap := { s.keymap with stack := [] } }))
    ∧ (Calm s → s.keymap.nextTick = none → exec .layerTick s = .next (startTransmit s))
    ∧ (∀ t : Nat, s.keymap.nextTick = some t → Calm s →
      exec .layerTick s = .next (startTransmit (terminationCheck
        { s with
          now := max s.now t
          keymap := { s.keymap with
            nextTick := some (t + ms 100)
            stack := s.keymap.stack.map fun e => { e with idle := min (e.idle + 100) 60000 } } })))
    ∧ (∀ p : Position, Calm s → s.keymap.positions[p].arm = none → exec (.armDelayExpiry p) s = .next (startTransmit s))
    ∧ (∀ p : Position, ∀ a : Arm, s.keymap.positions[p].arm = some a → Calm s →
      let u := { s with
        now := max s.now a.timer.deadline
        keymap := { s.keymap with positions := vset s.keymap.positions p { s.keymap.positions[p] with arm := none } } }
      let e : StackEntry :=
        { layer := a.layer, position := p, termination := a.termination, counted := decide (a.count ≠ 0), count := a.count
          idle := 0, held := true }
      (s.keymap.stack.length < 6 →
        exec (.armDelayExpiry p) s
          = .next (startTransmit { u with keymap := { u.keymap with stack := e :: s.keymap.stack } }))
      ∧ (6 ≤ s.keymap.stack.length →
        exec (.armDelayExpiry p) s = .next (startTransmit (recordError .layerOverflow { index := some p.val } u))))

/-- The termination check pops tops while their codes are true, each against the state with that top in place, and ends at the
first whose code is false or with the stack empty. Nothing else changes (R138). That this holds of the code HOLD_KEY too, of
which R69's closing sentence says otherwise, is read by inference, from section 0.3 with Table 0-2 (log 36). -/
def Obligations.TerminationCheckPopsTrueTops : Prop :=
  ∀ s : State,
    let l := s.keymap.stack
    let left (k : Nat) : State := { s with keymap := { s.keymap with stack := l.drop k } }
    ∃ k ≤ l.length, terminationCheck s = left k
      ∧ (∀ j < k, (l[j]?.any fun e => condition (left j) e.termination) = true)
      ∧ (l[k]?.all fun e => !condition (left k) e.termination) = true

/-- A press taken: every idle time becomes 0; the entry is the first on the walk from the current layer down the stack to
layer 0 that is not TRANSPARENT, NONE when there is none; the resolution is recorded and its action carried out; then the
termination check runs. A PLAIN press reports only in RUN and WARN, and counts the top entry down (R131, R132, R134, R135,
R139, R140). WAKE, ACK_LOCKOUT, REQUEST_RESTART and REQUEST_SHUTDOWN make the requests of Table 8-7, each ignored in every
other host state (R17, R22, R106, R109). The order of request and check is an operand (log 9). -/
def Obligations.PressesActByTheResolvedEntry : Prop :=
  ∀ (s : State) (p : Position) (first : Bool),
    let walk := s.keymap.stack.map StackEntry.layer ++ [0]
    let at_ (k : Nat) : KeyEntry := s.keymap.entries[keySlot (walk.getD k 0) p]
    let x := s.keymap.positions[p]
    let calm := s.keymap.stack.map fun e => { e with idle := 0 }
    let keyed (t : State) (y : KeyPosition) (stack : List StackEntry) : State :=
      { t with keymap := { s.keymap with positions := vset s.keymap.positions p y, stack := stack } }
    let noted (kind : KeyKind) (l : Fin 4) : KeyPosition :=
      { resolution := some (kind, l), code := x.code, reported := false, arm := x.arm }
    let counted : List StackEntry := match calm with
      | top :: rest => if top.counted ∧ 0 < top.count then { top with count := top.count - 1 } :: rest else calm
      | [] => []
    let press := takePress p first s
    (∀ k < walk.length, (∀ j < k, at_ j = .transparent) → at_ k ≠ .transparent →
        resolveKey s p = (at_ k, walk.getD k 0))
    ∧ ((∀ j < walk.length, at_ j = .transparent) → resolveKey s p = (.none, 0))
    ∧ (∀ l : Fin 4, resolveKey s p = (.none, l) → press = terminationCheck (keyed s (noted .none l) calm))
    ∧ (∀ (code : Nat) (l : Fin 4), resolveKey s p = (.plain code, l) →
        let y : KeyPosition := { noted .plain l with code := some code }
        (s.hpc.host.keysReported = true →
          press = terminationCheck (keyed
            (countEvent .keyNotices (handNotice (.key p code .press l false) s)) { y with reported := true } counted))
        ∧ (s.hpc.host.keysReported = false → press = terminationCheck (countEvent .keyDiscarded (keyed s y calm))))
    ∧ (∀ (m l : Fin 4) (c : Fin 32) (n d : Nat), resolveKey s p = (.layer m c n d, l) →
        let e : StackEntry :=
          { layer := m, position := p, termination := c, counted := decide (n ≠ 0), count := n, idle := 0, held := true }
        let arm : Arm := { timer := { start := s.now, span := ms d }, layer := m, termination := c, count := n }
        (d ≠ 0 → press = terminationCheck (keyed s { noted .layer l with arm := some arm } calm))
        ∧ (d = 0 → calm.length < 6 → press = terminationCheck (keyed s (noted .layer l) (e :: calm)))
        ∧ (d = 0 → 6 ≤ calm.length →
          press = terminationCheck (recordError .layerOverflow { index := some p.val } (keyed s (noted .layer l) calm))))
    ∧ (∀ l : Fin 4, resolveKey s p = (.clearOne, l) → press = terminationCheck (keyed s (noted .clearOne l) calm.tail))
    ∧ (∀ l : Fin 4, resolveKey s p = (.clearAll, l) → press = keyed s (noted .clearAll l) [])
    ∧ (∀ (f : ServiceFunction) (c : Fin 32) (l : Fin 4), resolveKey s p = (.service f c, l) →
        let u := keyed s (noted .service l) calm
        (condition u c = false → press = terminationCheck u)
        ∧ (∀ n : Fin 4, f = .setFlag n → condition u c = true →
            press = terminationCheck { u with flags := s.flags ||| (1#4 <<< n.val) })
        ∧ (∀ n : Fin 4, f = .clearFlag n → condition u c = true →
            press = terminationCheck { u with flags := s.flags &&& ~~~(1#4 <<< n.val) })
        ∧ (condition u c = true → f = .wake ∨ f = .ackLockout ∨ f = .requestRestart ∨ f = .requestShutdown →
            press = if first then terminationCheck (serviceRequest f u) else serviceRequest f (terminationCheck u)))
    ∧ (let h := s.hpc.host
      (h = .standby → s.power = .running → serviceRequest .wake s = enterPreheat s)
      ∧ (h ≠ .standby ∨ s.power ≠ .running → serviceRequest .wake s = s)
      ∧ (h = .lockout → serviceRequest .ackLockout s
          = enterPreheat { s with hpc := { s.hpc with hardList := [], softCount := 0, retryTimer := none } })
      ∧ (h ≠ .lockout → serviceRequest .ackLockout s = s)
      ∧ (h = .boot ∨ h = .run ∨ h = .warn → serviceRequest .requestRestart s = softRestart .serviceRequest s)
      ∧ (h ≠ .boot → h ≠ .run → h ≠ .warn → serviceRequest .requestRestart s = s)
      ∧ serviceRequest .requestShutdown s = requestShutdown s)

/-- A release or forced release taken: the held flags of the position's entries are cleared, a PLAIN press reported in RUN or
WARN gives a RELEASE notice with its remembered code and layer and otherwise counts KEY_DISCARDED, a LAYER press's arm
delay is cancelled; the position's resolution, code and mark are cleared, and the termination check runs (R133, R136). -/
def Obligations.ReleasesActByThePressResolution : Prop :=
  ∀ (s : State) (p : Position) (forced : Bool),
    let x := s.keymap.positions[p]
    let stack := s.keymap.stack.map fun e => if e.position = p then { e with held := false } else e
    let cleared (t : State) (arm : Option Arm) : State :=
      terminationCheck { t with keymap := { s.keymap with
        positions := vset s.keymap.positions p { resolution := none, code := none, reported := false, arm := arm }
        stack := stack } }
    (∀ code : Nat, x.code = some code → ∀ l : Fin 4, x.resolution = some (.plain, l) →
      (x.reported = true → s.hpc.host.keysReported = true →
        takeRelease p forced s = cleared (countEvent .keyNotices (handNotice (.key p code .release l forced) s)) x.arm)
      ∧ (x.reported = false ∨ s.hpc.host.keysReported = false →
        takeRelease p forced s = cleared (countEvent .keyDiscarded s) x.arm))
    ∧ (∀ l : Fin 4, x.resolution = some (.layer, l) → takeRelease p forced s = cleared s none)
    ∧ ((∀ l : Fin 4, x.resolution ≠ some (.plain, l) ∧ x.resolution ≠ some (.layer, l)) →
        takeRelease p forced s = cleared s x.arm)

/-! ### Conditions -/

/-- The base conditions, codes 0 to 15, and their complements, codes 16 to 31, against the state as it stands (R63, R65 to
R70). -/
def Obligations.ConditionsReadTheState : Prop :=
  ∀ s : State,
    let top : Option StackEntry := s.keymap.stack.head?
    (∀ n : Fin 16, condition s ⟨16 + n.val, by omega⟩ = !condition s ⟨n.val, by omega⟩)
    ∧ (condition s 0 = true ↔ s.hpc.host = .rails ∨ s.hpc.host = .boot ∨ s.hpc.host = .run ∨ s.hpc.host = .warn
        ∨ s.hpc.host = .restart ∨ s.hpc.host = .drain)
    ∧ (condition s 1 = true ↔ s.hpc.host = .run ∨ s.hpc.host = .warn)
    ∧ condition s 2 = (s.hpc.beat.any fun b => s.now - b.moment < ms b.period)
    ∧ (condition s 3 = true ↔ ∃ z : Zone, s.heat.records[z].enable = true
        ∧ (gateValue s z).any (fun t => t < s.heat.records[z].coldThreshold) = true)
    ∧ (condition s 4 = true ↔ ∀ z : Zone, s.heat.records[z].gateMask = true →
        (gateValue s z).any (fun t => s.heat.records[z].gateTemp ≤ t) = true)
    ∧ condition s 5 = s.heat.limited
    ∧ (condition s 6 = true ↔ ∃ z : Zone, s.heat.zones[z].cut = true)
    ∧ condition s 7 = top.any (fun e => e.held)
    ∧ condition s 8 = top.any (fun e => e.counted && e.count = 0)
    ∧ condition s 9 = top.any (fun e => s.keymap.layerTimeout ≠ 0 && s.keymap.layerTimeout ≤ e.idle)
    ∧ (∀ f : Fin 4, condition s ⟨10 + f.val, by omega⟩ = s.flags.getLsbD f.val)
    ∧ (condition s 14 = true ↔ s.errs.flags ≠ 0)
    ∧ condition s 15 = true

/-! ### Heartbeats, restarts, shutdown -/

/-- HEARTBEAT taken, its checks in order: STATE in DRAIN, EARLY inside the early window with one EARLY_HEARTBEATS event,
BAD_REQUEST for a repeat; otherwise one HEARTBEATS event, the record and the sequence are written, the timer starts with the
period in force, BOOT and WARN pass to RUN, and BOOT starts the stable timer (R95, R96). That a refusal's reply is placed
before its error is recorded is read by inference (log 10). -/
def Obligations.HeartbeatChecksInOrder : Prop :=
  ∀ (s : State) (tag : Tag) (seq : Byte), Ready s →
    let l := s.hpc.ladder
    let early : Prop := l.earlyWindow ≠ 0 ∧ (s.hpc.beat.any fun b => s.now - b.moment < ms l.earlyWindow) = true
    let fresh : Prop := ¬ early ∧ s.hpc.lastSeq ≠ some seq
    let h : Hpc :=
      { s.hpc with
        host := .run, beat := some { moment := s.now, period := l.period }, lastSeq := some seq
        heartbeatTimer := some { start := s.now, span := ms l.period } }
    let beaten (h : Hpc) : State := countEvent .heartbeats { s with hpc := h }
    let up := { h with bootTimer := none, stableTimer := some { start := s.now, span := minutes l.stableTime } }
    (s.hpc.host = .drain → exec (.heartbeat tag seq) s = .next (replied tag .state [] s))
    ∧ (s.hpc.host ≠ .drain → early →
        exec (.heartbeat tag seq) s = .next (replied tag .early [] (countEvent .earlyHeartbeats s)))
    ∧ (s.hpc.host ≠ .drain → ¬ early → s.hpc.lastSeq = some seq →
        exec (.heartbeat tag seq) s = .next (repliedBad tag 0x10 s))
    ∧ (s.hpc.host = .run → fresh → exec (.heartbeat tag seq) s = .next (replied tag .done [] (beaten h)))
    ∧ (s.hpc.host = .warn → fresh →
        exec (.heartbeat tag seq) s = .next (replied tag .done [] (beaten { h with graceTimer := none })))
    ∧ (s.hpc.host = .boot → fresh → s.heat.budget.inrush ≤ s.heat.budget.run →
        exec (.heartbeat tag seq) s = .next (replied tag .done [] (beaten up)))
    ∧ (s.hpc.host = .boot → fresh → s.heat.budget.run < s.heat.budget.inrush →
        exec (.heartbeat tag seq) s = .next (replied tag .done [] (immediateRecompute (beaten up))))

/-- HOST_RESTART taken, its checks in order: STATE in DRAIN and while a request is pending, BAD_REQUEST for another kind;
otherwise its DONE reply is queued and the kind recorded as pending, the host state unchanged (R107). That a refusal's reply
is placed before its error is recorded is read by inference (log 10). -/
def Obligations.HostRestartIsRecordedAsPending : Prop :=
  ∀ (s : State) (tag : Tag) (kind : Byte), Ready s →
    let accepted (k : RestartKind) : Result :=
      .next (startTransmit (placeReply { tag := tag, address := 0, status := .done, payload := [], restart := true }
        { s with hpc := { s.hpc with pendingRestart := some k } }))
    (s.hpc.host = .drain ∨ s.hpc.pendingRestart ≠ none →
      exec (.hostRestart tag kind) s = .next (replied tag .state [] s))
    ∧ (s.hpc.host ≠ .drain → s.hpc.pendingRestart = none →
      (kind = 0 → exec (.hostRestart tag kind) s = accepted .soft)
      ∧ (kind = 1 → exec (.hostRestart tag kind) s = accepted .hard)
      ∧ (2 ≤ kind.toNat → exec (.hostRestart tag kind) s = .next (repliedBad tag 0x11 s)))

/-- The transmitter, idle in BOOT, RUN, WARN or DRAIN, takes up the oldest reply if there is one and otherwise the oldest
notice, at once when a reply is placed behind the others. A completed frame leaves its queue; when it answered a HOST_RESTART,
the pending restart is made: SOFT a soft restart, HARD a log record and POWER_CYCLE without touching the hard-restart list
(R165, R108). -/
def Obligations.TransmitterSendsRepliesFirst : Prop :=
  ∀ s : State,
    let idle (replies : List Reply) (notices : List Notice) (pending : Option RestartKind) : State :=
      { s with
        panel := { s.panel with replies := replies, notices := notices, tx := .idle }
        hpc := { s.hpc with pendingRestart := pending } }
    (s.hpc.host.delivers = false ∨ s.panel.tx ≠ .idle ∨ (s.panel.replies = [] ∧ s.panel.notices = []) →
      startTransmit s = s)
    ∧ (s.hpc.host.delivers = true → s.panel.tx = .idle → s.panel.replies ≠ [] →
      startTransmit s = { s with panel := { s.panel with tx := .reply } })
    ∧ (s.hpc.host.delivers = true → s.panel.tx = .idle → s.panel.replies = [] → s.panel.notices ≠ [] →
      startTransmit s = { s with panel := { s.panel with tx := .notice } })
    ∧ (∀ r : Reply, placeReply r s = startTransmit { s with panel := { s.panel with replies := s.panel.replies ++ [r] } })
    ∧ (Calm s → s.panel.tx = .idle → exec .transmitComplete s = .next (startTransmit s))
    ∧ (Calm s → s.panel.tx = .notice → exec .transmitComplete s
        = .next (startTransmit (idle s.panel.replies s.panel.notices.tail s.hpc.pendingRestart)))
    ∧ (Calm s → s.panel.tx = .reply →
      let rest := s.panel.replies.tail
      let restarts : Bool := s.panel.replies.head?.any Reply.restart
      (restarts = false ∨ s.hpc.pendingRestart = none →
        exec .transmitComplete s = .next (startTransmit (idle rest s.panel.notices s.hpc.pendingRestart)))
      ∧ (restarts = true → s.hpc.pendingRestart = some .soft →
        exec .transmitComplete s = .next (softRestart .hostRequest (idle rest s.panel.notices none)))
      ∧ (restarts = true → s.hpc.pendingRestart = some .hard →
        let u := idle rest s.panel.notices none
        let l := logged .hostRequest .hard s.hpc.hardList.length s.hpc.softCount u
        exec .transmitComplete s = .next (enterPowerCycle
          { u with hpc := { l with bootTimer := none, heartbeatTimer := none, graceTimer := none, stableTimer := none } })))

/-- A soft restart from BOOT, RUN or WARN: a log record SOFT, the watchdog timers discarded, the host reset asserted for the
reset pulse, RESTART entered with the effects of a host restart event, a pending request cancelled; hard-restart list,
soft-attempt count, rails, layers and flags unchanged (R101). An escalation below max soft counts one attempt and makes one;
REQUEST_RESTART makes one in BOOT, RUN and WARN (R92, R98, R100, R109). The moment at which an expiry command acts is the
model's choice (log 3). -/
def Obligations.SoftRestartHoldsTheHostInReset : Prop :=
  (∀ (s : State) (cause : RestartCause), s.hpc.host.running = true →
    let q := silenced s
    let l := logged cause .soft s.hpc.hardList.length s.hpc.softCount s
    softRestart cause s =
      { q with
        hpc := { l with
          host := .restart, hostReset := true, beat := none, lastSeq := none, pendingRestart := none
          bootTimer := none, heartbeatTimer := none, graceTimer := none, stableTimer := none
          pulseTimer := some { start := s.now, span := ms s.hpc.ladder.resetPulse } }
        heat := budgeted .restart s
        keymap := unreported s })
  ∧ (∀ (s : State) (t : Timer), s.hpc.softCount < s.hpc.ladder.maxSoft →
    let u := { s with now := max s.now t.deadline, hpc := { s.hpc with softCount := s.hpc.softCount + 1 } }
    (s.hpc.host = .boot → s.hpc.bootTimer = some t → exec .bootWindowExpiry s = .next (softRestart .bootTimeout u))
    ∧ (s.hpc.host = .warn → s.hpc.graceTimer = some t → exec .graceExpiry s = .next (softRestart .watchdogExpiry u)))
  ∧ (∀ s : State, requestRestart s = if s.hpc.host.running then softRestart .serviceRequest s else s)

/-- The hard-restart decision: the list is pruned of entries older than the hard window, makes room, and takes the uptime; at
hard limit entries the host goes to LOCKOUT, otherwise to POWER_CYCLE; the soft-attempt count is cleared, a log record
written, the rails dropped with the reset asserted, the timers discarded, and the effects of a host restart event follow
(R16, R103 to R105). An escalation at max soft takes it (R92, R98, R100). The moment at which an expiry command acts is the
model's choice (log 3). -/
def Obligations.HardDecisionPrunesAppendsAndChooses : Prop :=
  (∀ (s : State) (cause : RestartCause), s.hpc.hardList.length ≤ s.hpc.ladder.hardLimit →
    let young := s.hpc.hardList.filter fun u => uptime s - u ≤ 60 * s.hpc.ladder.hardWindow
    let list := (if young.length = s.hpc.ladder.hardLimit then young.tail else young) ++ [uptime s]
    let lock : Bool := list.length = s.hpc.ladder.hardLimit
    let target : HostState := if lock then .lockout else .powerCycle
    let q := silenced s
    let l := logged cause (if lock then .lockout else .hard) list.length 0 s
    let retry : Option Timer := match s.hpc.ladder.policy with
      | .autoRetry => some { start := s.now, span := minutes s.hpc.ladder.retry }
      | .waitService => none
    1 ≤ s.hpc.ladder.hardLimit → hardDecision cause s =
      { q with
        hpc := { l with
          host := target, hardList := list, softCount := 0, hostReset := true, enables := #v[false, false, false]
          up := #v[false, false, false], railStep := none, beat := none, lastSeq := none
          pendingRestart := if s.hpc.host.running then none else s.hpc.pendingRestart
          bootTimer := none, heartbeatTimer := none, graceTimer := none, stableTimer := none, pulseTimer := none
          drainTimer := none
          powerOffTimer := if lock then s.hpc.powerOffTimer else some { start := s.now, span := sec s.hpc.ladder.powerOffTime }
          retryTimer := if lock then retry else s.hpc.retryTimer }
        heat := budgeted target s
        keymap := unreported s
        outs := { s.outs with hostWord := 0 } })
  ∧ (∀ (s : State) (t : Timer), s.hpc.ladder.maxSoft ≤ s.hpc.softCount →
    let u := { s with now := max s.now t.deadline }
    (s.hpc.host = .boot → s.hpc.bootTimer = some t → exec .bootWindowExpiry s = .next (hardDecision .bootTimeout u))
    ∧ (s.hpc.host = .warn → s.hpc.graceTimer = some t → exec .graceExpiry s = .next (hardDecision .watchdogExpiry u)))

/-- A pg timeout in WAIT_PG, and a fall of power-good on a rail that is on and up while the host state watches it, are rail
faults: RAIL_FAULT is recorded with the rail number, the rail-step, drain and off-settle timers are discarded and the
hard-restart decision taken. Any other fall only lowers the pin (R13 to R15). The moment at which an expiry command acts is the
model's choice (log 3). -/
def Obligations.RailFaultsTakeTheHardDecision : Prop :=
  ∀ s : State,
    let fault (k : Rail) (u : State) : Result :=
      let v := recordError .railFault { index := some (k.val + 1) } u
      .next (hardDecision .railFault
        { v with hpc := { v.hpc with railStep := none, drainTimer := none, offSettleTimer := none } })
    (∀ st : RailStep, s.hpc.railStep = some st → s.hpc.host = .rails → st.phase = .waitPg →
      exec .pgTimeoutExpiry s = fault st.rail { s with now := max s.now st.timer.deadline })
    ∧ (∀ k : Rail,
      let low := { s with hpc := { s.hpc with powerGood := vset s.hpc.powerGood k false } }
      let watched : Prop := s.hpc.host = .rails ∨ s.hpc.host = .boot ∨ s.hpc.host = .run ∨ s.hpc.host = .warn
        ∨ s.hpc.host = .restart ∨ (s.hpc.host = .drain ∧ s.hpc.railOff = false)
      (Calm s → s.hpc.enables[k] = true → s.hpc.up[k] = true → watched → exec (.powerGoodFall k) s = fault k low)
      ∧ (Calm s → s.hpc.enables[k] = false ∨ s.hpc.up[k] = false ∨ ¬ watched →
          exec (.powerGoodFall k) s = .next (startTransmit low)))

/-- The other host timers: the heartbeat timer takes RUN to WARN with the grace timer and a WATCHDOG_WARN notice, and a grace
of 0 escalates at once (R97, R98); the stable time clears the soft-attempt count (R99); the reset pulse releases the
reset and enters BOOT (R102); power-off and lockout retry enter PREHEAT, the retry clearing the hard-restart list and the
soft-attempt count first (R104, R106). The moment at which an expiry command acts is the model's choice (log 3); the
WATCHDOG_WARN notice's time, cut at 60,000 and 0 without a heartbeat record, is read by inference (log 25). -/
def Obligations.HostTimersMoveTheHost : Prop :=
  ∀ (s : State) (t : Timer),
    let u := { s with now := max s.now t.deadline }
    let since : Nat := match s.hpc.beat with
      | some b => min ((u.now - b.moment) / 8) 60000
      | none => 0
    let warned := handNotice
      (.watchdogWarn (uptime u) since s.hpc.ladder.grace s.hpc.softCount s.hpc.ladder.maxSoft)
      { u with hpc := { s.hpc with
        host := .warn, heartbeatTimer := none, graceTimer := some { start := u.now, span := ms s.hpc.ladder.grace } } }
    (s.hpc.host = .run → s.hpc.heartbeatTimer = some t → s.hpc.ladder.grace ≠ 0 →
      exec .heartbeatTimerExpiry s = .next (startTransmit warned))
    ∧ (s.hpc.host = .run → s.hpc.heartbeatTimer = some t → s.hpc.ladder.grace = 0 →
      exec .heartbeatTimerExpiry s = .next (escalate .watchdogExpiry warned))
    ∧ (s.hpc.host = .run ∨ s.hpc.host = .warn → s.hpc.stableTimer = some t →
      exec .stableTimeReached s
        = .next (startTransmit { u with hpc := { s.hpc with softCount := 0, stableTimer := none } }))
    ∧ (s.hpc.host = .restart → s.hpc.pulseTimer = some t →
      exec .resetPulseExpiry s = .next (startTransmit
        { u with
          hpc := { s.hpc with
            host := .boot, hostReset := false, railStep := none, pulseTimer := none
            bootTimer := some { start := u.now, span := sec s.hpc.ladder.bootWindow } }
          panel := { s.panel with partialFrame := [] } }))
    ∧ (s.hpc.host = .powerCycle → s.hpc.powerOffTimer = some t → exec .powerOffExpiry s = .next (enterPreheat u))
    ∧ (s.hpc.host = .lockout → s.hpc.retryTimer = some t →
      exec .lockoutRetryExpiry s
        = .next (enterPreheat { u with hpc := { s.hpc with hardList := [], softCount := 0, retryTimer := none } }))

/-- SHUTDOWN taken: STATE in DRAIN, BAD_REQUEST for another keep-warm value; otherwise DONE and DRAIN's wait phase, the
watchdog timers discarded, the drain timer started, keep-warm 0 setting suppression, a pending request cancelled; with an
empty relay rail-off begins at once. The drain timer answers every held command ABANDONED and begins rail-off. Each off settle
releases the highest rail still on, and the last one enters STANDBY (R17 to R20, R156). REQUEST_SHUTDOWN does in BOOT, RUN and
WARN what SHUTDOWN with keep-warm 1 does, without a reply, and nothing in any other state (R17). The moment at which an expiry
command acts is the model's choice (log 3). That a refusal's reply is placed before its error is recorded is read by inference
(log 10). -/
def Obligations.ShutdownDrainsAndReleasesTheRails : Prop :=
  ∀ s : State,
    let off (u : State) : State :=
      { u with hpc := { u.hpc with
        drainTimer := none, railOff := true, hostReset := true
        offSettleTimer := some { start := u.now, span := ms s.hpc.sequence.offSettle } } }
    let draining (suppress : Bool) : State :=
      { s with
        hpc := { s.hpc with
          host := .drain, railOff := false, pendingRestart := none, bootTimer := none, heartbeatTimer := none
          graceTimer := none, stableTimer := none, suppress := suppress
          drainTimer := some { start := s.now, span := ms s.hpc.sequence.drainTimeout } }
        heat := budgeted .drain s
        keymap := unreported s }
    let runs : Prop := s.hpc.host = .boot ∨ s.hpc.host = .run ∨ s.hpc.host = .warn
    (runs → s.relay.queue ≠ [] → requestShutdown s = draining s.hpc.suppress)
    ∧ (runs → s.relay.queue = [] → requestShutdown s = off (draining s.hpc.suppress))
    ∧ (¬ runs → requestShutdown s = s)
    ∧ (∀ (tag : Tag) (keep : Byte), Ready s →
      let drained := draining (if keep = 0 then true else s.hpc.suppress)
      (s.hpc.host = .drain → exec (.shutdown tag keep) s = .next (replied tag .state [] s))
      ∧ (s.hpc.host ≠ .drain → 2 ≤ keep.toNat → exec (.shutdown tag keep) s = .next (repliedBad tag 0x12 s))
      ∧ (s.hpc.host ≠ .drain → keep.toNat ≤ 1 → s.relay.queue ≠ [] →
          exec (.shutdown tag keep) s = .next (replied tag .done [] drained))
      ∧ (s.hpc.host ≠ .drain → keep.toNat ≤ 1 → s.relay.queue = [] →
          exec (.shutdown tag keep) s = .next (replied tag .done [] (off drained))))
    ∧ (∀ t : Timer, Calm s → s.hpc.host = .drain → s.hpc.drainTimer = some t →
      exec .drainTimerExpiry s = .next (startTransmit (off
        { s with
          now := max s.now t.deadline
          relay := (silenced s).relay
          panel := { s.panel with replies := s.panel.replies ++ s.relay.queue.map fun e =>
            { tag := e.tag, address := e.address, status := .abandoned, payload := [] } } })))
    ∧ (∀ t : Timer, Calm s → s.hpc.host = .drain → s.hpc.offSettleTimer = some t →
      let e := s.hpc.enables
      let drop (v : Vector Bool 3) : Vector Bool 3 :=
        #v[v[0] && (e[1] || e[2] || !e[0]), v[1] && (e[2] || !e[1]), v[2] && !e[2]]
      let now := max s.now t.deadline
      let h := { s.hpc with enables := drop s.hpc.enables, up := drop s.hpc.up }
      let q := silenced s
      ((e[0] && e[1]) || (e[0] && e[2]) || (e[1] && e[2]) →
        exec .offSettleExpiry s = .next (startTransmit
          { s with now := now, hpc := { h with
            offSettleTimer := some { start := now, span := ms s.hpc.sequence.offSettle } } }))
      ∧ (¬ ((e[0] && e[1]) || (e[0] && e[2]) || (e[1] && e[2])) →
        exec .offSettleExpiry s = .next
          { q with
            now := now
            hpc := { h with host := .standby, offSettleTimer := none, railOff := false, beat := none, lastSeq := none }
            heat := budgeted .standby { s with now := now }
            outs := { s.outs with hostWord := 0 } }))

/-! ### The cold start -/

/-- The cold-start gate: PREHEAT starts the preheat timer, clears failed tests and suppression and evaluates the gate; ALL_WARM
takes PREHEAT to SOAK and a soak time of 0 on to RAILS; the hold test takes SOAK back to PREHEAT; the preheat timer's
forced-start test enters RAILS or counts a failed test and starts again; the soak timer enters RAILS; a wake request enters
PREHEAT from STANDBY once the load is complete and is ignored elsewhere; ACK_LOCKOUT leaves LOCKOUT (R6 to R10, R22,
R106). The moment at which an expiry command acts is the
model's choice (log 3). -/
def Obligations.GateDecidesTheStart : Prop :=
  ∀ s : State,
    let reads (p : Int → ZoneRecord → Prop) [∀ t r, Decidable (p t r)] (absent : Bool) : Prop :=
      ∀ z : Zone, s.heat.records[z].gateMask = true →
        (match gateValue s z with
          | some t => decide (p t s.heat.records[z])
          | none => absent) = true
    let warm : Prop := reads (fun t r => r.gateTemp ≤ t) false
    let hold : Prop := reads (fun t r => r.gateTemp - s.hpc.sequence.gateHysteresis ≤ t) false
    let startable : Prop := reads (fun t r => r.minStart ≤ t) s.hpc.sequence.startWithoutProbe
    let soak := { s with hpc := { s.hpc with
      host := .soak, soakTimer := some { start := s.now, span := sec s.hpc.sequence.soakTime } } }
    let preheat :=
      { s with
        heat := budgeted .preheat s
        hpc := { s.hpc with
          host := .preheat, suppress := false, start := { s.hpc.start with failedTests := 0 }
          preheatTimer := some { start := s.now, span := sec s.hpc.sequence.preheatTimeout }
          powerOffTimer := none, retryTimer := none } }
    (s.hpc.host = .preheat → ¬ warm → evaluateGate s = s)
    ∧ (s.hpc.host = .preheat → warm → s.hpc.sequence.soakTime ≠ 0 → evaluateGate s = soak)
    ∧ (s.hpc.host = .preheat → warm → s.hpc.sequence.soakTime = 0 → evaluateGate s = enterRails .normal soak)
    ∧ (s.hpc.host = .soak → hold → evaluateGate s = s)
    ∧ (s.hpc.host = .soak → ¬ hold →
        evaluateGate s = { s with hpc := { s.hpc with host := .preheat, soakTimer := none } })
    ∧ (s.hpc.host ≠ .preheat → s.hpc.host ≠ .soak → evaluateGate s = s)
    ∧ (s.hpc.host.keepWarm = true → enterPreheat s = evaluateGate preheat)
    ∧ (s.hpc.host = .standby → s.power = .running → exec .wakeEdge s = .next (enterPreheat s))
    ∧ (Calm s → s.hpc.host ≠ .standby ∨ s.power ≠ .running → exec .wakeEdge s = .next (startTransmit s))
    ∧ (s.hpc.host = .lockout →
        ackLockout s = enterPreheat { s with hpc := { s.hpc with hardList := [], softCount := 0, retryTimer := none } })
    ∧ (s.hpc.host ≠ .lockout → ackLockout s = s)
    ∧ (∀ t : Timer,
      let u := { s with now := max s.now t.deadline }
      (s.hpc.host = .soak → s.hpc.soakTimer = some t → exec .soakTimerExpiry s = .next (enterRails .normal u))
      ∧ (s.hpc.host = .preheat ∨ s.hpc.host = .soak → s.hpc.preheatTimer = some t → startable →
        exec .preheatTimerExpiry s = .next (enterRails .forced u))
      ∧ (s.hpc.host = .preheat ∨ s.hpc.host = .soak → s.hpc.preheatTimer = some t → ¬ startable →
        exec .preheatTimerExpiry s = .next
          { u with hpc := { s.hpc with
            start := { s.hpc.start with failedTests := min (s.hpc.start.failedTests + 1) 255 }
            preheatTimer := some { start := u.now, span := sec s.hpc.sequence.preheatTimeout } } }))

/-- Entry into RAILS writes the start record and begins the lowest rail of the mask; a rail's step asserts its enable and waits
for power-good with its pg timeout, a power-good already high counting at once; power-good starts the settle time; its
expiry begins the next higher rail of the mask, and after the last one releases the host reset into BOOT with the boot
window (R1, R11, R12, R92). The moment at which an expiry command acts is the
model's choice (log 3). -/
def Obligations.RailStepsRunInOrder : Prop :=
  ∀ s : State,
    let lows := (allZones.filter fun z => s.heat.records[z].gateMask).filterMap (gateValue s)
    let entered (kind : StartKind) :=
      { s with
        heat := budgeted .rails s
        hpc := { s.hpc with
          host := .rails, maskInUse := s.hpc.sequence.railMask, soakTimer := none, preheatTimer := none
          start := { kind := kind, uptime := uptime s, lowest := lows.min?, failedTests := s.hpc.start.failedTests } } }
    let waits (k : Rail) : State :=
      { s with hpc := { s.hpc with
        enables := vset s.hpc.enables k true
        railStep := some { rail := k, phase := .waitPg
                           timer := { start := s.now, span := ms s.hpc.sequence.pgTimeout[k] } } } }
    let settles (k : Rail) (u : State) : State :=
      { u with hpc := { u.hpc with
        up := vset u.hpc.up k true
        railStep := some { rail := k, phase := .settle, timer := { start := u.now, span := ms s.hpc.sequence.settle[k] } } } }
    (∀ (kind : StartKind) (k : Rail), s.hpc.host = .preheat ∨ s.hpc.host = .soak → s.hpc.sequence.railMask[k] = true →
      (∀ j : Rail, j < k → s.hpc.sequence.railMask[j] = false) → enterRails kind s = beginRailStep k (entered kind))
    ∧ (∀ k : Rail,
      let high := { s with hpc := { s.hpc with powerGood := vset s.hpc.powerGood k true } }
      (s.hpc.powerGood[k] = false → beginRailStep k s = waits k)
      ∧ (s.hpc.powerGood[k] = true → beginRailStep k s = settles k (waits k))
      ∧ (∀ st : RailStep, s.hpc.railStep = some st →
        (s.hpc.host = .rails ∧ st.rail = k ∧ st.phase = .waitPg →
          exec (.powerGoodArrival k) s = .next (settles k high))
        ∧ (Calm s → ¬ (s.hpc.host = .rails ∧ st.rail = k ∧ st.phase = .waitPg) →
          exec (.powerGoodArrival k) s = .next (startTransmit high)))
      ∧ (Calm s → s.hpc.railStep = none → exec (.powerGoodArrival k) s = .next (startTransmit high)))
    ∧ (∀ st : RailStep, s.hpc.railStep = some st → s.hpc.host = .rails → st.phase = .settle →
      let u := { s with now := max s.now st.timer.deadline }
      (∀ k : Rail, st.rail < k → s.hpc.maskInUse[k] = true → (∀ j : Rail, st.rail < j → j < k → s.hpc.maskInUse[j] = false) →
        exec .settleExpiry s = .next (beginRailStep k u))
      ∧ ((∀ k : Rail, st.rail < k → s.hpc.maskInUse[k] = false) →
        exec .settleExpiry s = .next (startTransmit
          { u with
            hpc := { s.hpc with
              host := .boot, hostReset := false, railStep := none, pulseTimer := none
              bootTimer := some { start := u.now, span := sec s.hpc.ladder.bootWindow } }
            panel := { s.panel with partialFrame := [] } })))

/-! ### Image Store, power, SUPERVISOR_RESET -/

/-- STORE_IMAGE taken: STATE while storing, BAD_REQUEST for another speed code; otherwise every item of Table 10-10 is
captured as it stands, with the carried speed; the state is STORING for at most 400 ms and the claimed entry is kept. The
completion replaces the image, makes the state VALID and fills the entry if it is still claimed (R169). Power-on fills each
block's tables from the image of the store, item by item, all else as after reset, or from factory defaults for an empty or
damaged one, a damaged one recording IMAGE_FAULT; a loss of supply leaves the store, damaged when a store was in progress
(R170). At the end of the load the host is settled and the control period, the scan, the layer tick and the polls begin (R2,
R28, R60, R114, R126, R143, R170). That the first scan starts then and the tick 100 ms later (log 17, log 18), the state after
POWER_LOSS (log 29), POWER_ON while supplied as a loss first (log 5), and the power-good inputs kept over both (log 6) are the
model's choice; the debounce count before the load is read by inference (log 32). That a refusal's reply is placed before its
error is recorded is read by inference (log 10). -/
def Obligations.ImageStoreAndPower : Prop :=
  ∀ s : State,
    let kept : Store := if s.imageState.isStoring then .damaged else s.store
    let fresh (power : Power) (image : Image) (held : ImageState) : State :=
      let r := State.reset
      { r with
        power := power, store := kept, imageState := held, choice := s.choice, pending := s.pending
        hpc := { r.hpc with sequence := image.sequence, ladder := image.ladder, powerGood := s.hpc.powerGood }
        heat := { r.heat with records := image.zones, budget := image.budget }
        probe := { r.probe with table := image.table, poll := image.poll }
        acts := { r.acts with entries := image.actions, lock := image.lock, protect := image.protect }
        pad := { r.pad with record := image.keypad, count := image.keypad.dMax }
        keymap := { r.keymap with entries := image.keymap, layerTimeout := image.layerTimeout }
        relay := { r.relay with windows := image.windows }
        panel := { r.panel with speed := image.speed }
        outs := { r.outs with planeMask := image.planeMask, foreground := image.foreground, indicator := image.indicator }
        errs := { r.errs with ignore := image.ignore } }
    let started := fresh .loading
    let contents (speed : Speed) : Image :=
      { windows := s.relay.windows, table := s.probe.table, poll := s.probe.poll
        actions := s.acts.entries, lock := s.acts.lock, protect := s.acts.protect
        zones := s.heat.records, budget := s.heat.budget, sequence := s.hpc.sequence, ladder := s.hpc.ladder
        keypad := s.pad.record, keymap := s.keymap.entries, layerTimeout := s.keymap.layerTimeout
        planeMask := s.outs.planeMask, foreground := s.outs.foreground, indicator := s.outs.indicator
        ignore := s.errs.ignore, speed := speed }
    let loaded := { s with power := .running }
    let first (c : Channel) : Prop := s.probe.table[c].valid = true ∧ ∀ d < c, s.probe.table[d].valid = false
    (∀ (tag : Tag) (code : Byte), Ready s →
      (s.imageState.isStoring = true → exec (.storeImage tag code) s = .next (replied tag .state [] s))
      ∧ (s.imageState.isStoring = false → 2 ≤ code.toNat → exec (.storeImage tag code) s = .next (repliedBad tag 0x58 s))
      ∧ (s.imageState.isStoring = false → code.toNat ≤ 1 →
        let speed : Speed := if code = 0 then .low else .high
        exec (.storeImage tag code) s
          = .next (startTransmit { s with
              imageState := .storing (contents speed) (some tag) (s.now + ms 400) })))
    ∧ (∀ image, s.imageState.captured = some image → Calm s →
      let done := { s with store := .image image, imageState := .valid }
      (storeClaim s = none → exec .storeComplete s = .next (startTransmit done))
      ∧ (∀ tag, storeClaim s = some tag → exec .storeComplete s = .next (replied tag .done [] done)))
    ∧ (Calm s → s.imageState.captured = none → exec .storeComplete s = .next (startTransmit s))
    ∧ exec .powerLoss s
        = .next (fresh .off Image.factory .factory)
    ∧ (∀ image, kept = .image image → exec .powerOn s = .next (started image .valid))
    ∧ (kept = .empty → exec .powerOn s = .next (started Image.factory .factory))
    ∧ (kept = .damaged → exec .powerOn s = .next { started Image.factory .factory with
        errs := { flags := 0x8000, ignore := 0, multiple := false
                  detail := some { cls := .imageFault, time := 0, fields := {} } } })
    ∧ (Calm s → s.power ≠ .loading → exec .imageLoadComplete s = .next (startTransmit s))
    ∧ (s.power = .loading → s.hpc.host = .standby → s.relay.queue = [] → s.relay.link = none →
      ∃ t, exec .imageLoadComplete s = .next t
        ∧ t.power = .running ∧ t.now = s.now
        ∧ t.hpc = (if s.hpc.sequence.autoStart then enterPreheat loaded else loaded).hpc
        ∧ t.heat.periodStart = some s.now ∧ t.pad.count = debounceCount s.pad.record (temperatureBasis s)
        ∧ t.pad.nextScan = some (s.now + ms s.pad.record.scanPeriod) ∧ t.pad.scanning = true
        ∧ t.keymap.nextTick = some (s.now + ms 100)
        ∧ (∀ c : Channel, s.probe.table[c].valid = false → t.probe.chans[c] = ChannelState.initial)
        ∧ (∀ c : Channel, s.probe.table[c].valid = true → ¬ first c →
            t.probe.chans[c] = { ChannelState.initial with poll := .queued, due := some s.now, joined := some s.now })
        ∧ (∀ c : Channel, first c → t.probe.chans[c].poll = .inFlight ∧ ∃ l, t.relay.link = some l
            ∧ l.use = .poll c true ∧ l.request.module = s.probe.table[c].module
            ∧ l.request.register = s.probe.table[c].register ∧ l.request.sequence = s.relay.seq + 1))

/-- SUPERVISOR_RESET taken: the relay is abandoned; every position is OPEN, the layer
stack and the positions' key state are cleared; runtime states of rules are cleared with their level actions released; flags,
error record and counters are cleared; the queues are emptied. Without a pending restart among the replies the DONE reply
stands alone and the tables, the lock, the sample state, the grants, the host state, the host reset line and every host timer are as
they were, in DRAIN's wait phase too; with one the restart is made and no reply placed (R2, R168, R71, R89, R111, R126, R143,
R155, R177, R178). That the HPC takes the relay's report after the reset and not within it is read by inference (log 33). -/
def Obligations.SupervisorResetClearsTheBlocks : Prop :=
  ∀ (s : State) (tag : Tag), Ready s →
    let restarts : Bool := s.panel.replies.any Reply.restart && s.hpc.pendingRestart.isSome
    let released (a : LevelAction) : Nat := (trippedSlots s a).length
    let done : Reply := { tag := tag, address := 0, status := .done, payload := [] }
    let q := silenced s
    ∃ t, exec (.supervisorReset tag) s = .next t
      ∧ t.flags = 0 ∧ t.errs = { flags := 0, ignore := s.errs.ignore, detail := none, multiple := false }
      ∧ t.counters = #v[{ select := .relayDone, count := 0 }, { select := .polls, count := 0 }]
      ∧ t.relay = q.relay ∧ t.imageState = q.imageState ∧ t.store = s.store ∧ t.probe = s.probe
      ∧ t.acts = { s.acts with rules := vmap (fun _ => RuleState.clear) s.acts.rules }
      ∧ t.pad = { s.pad with positions := vmap (fun _ => PadPosition.initial) s.pad.positions }
      ∧ t.keymap = { s.keymap with stack := [], positions := vmap (fun _ => KeyPosition.initial) s.keymap.positions }
      ∧ t.panel.notices = [] ∧ t.now = s.now ∧ captureImage .low t = captureImage .low s
      ∧ t.outs.forceOn = Vector.ofFn (fun o : Fin 16 => s.outs.forceOn[o] - released (.forceOn o))
      ∧ t.outs.forceOff = Vector.ofFn (fun o : Fin 16 => s.outs.forceOff[o] - released (.forceOff o))
      ∧ (restarts = false →
          t.panel = { s.panel with replies := [done], notices := [], tx := .reply }
          ∧ t.outs.hostWord = s.outs.hostWord
          ∧ t.heat = { s.heat with zones := Vector.ofFn fun z : Zone =>
              { s.heat.zones[z] with cutDemand := s.heat.zones[z].cutDemand - released (.cutZone z) } }
          ∧ t.hpc = s.hpc)
      ∧ (restarts = true → s.hpc.host ≠ .drain →
          t.panel.replies = [] ∧ t.panel.tx = .idle
          ∧ (s.hpc.pendingRestart = some .soft → t.hpc.host = .restart)
          ∧ (s.hpc.pendingRestart = some .hard → t.hpc.host = .powerCycle))

/-! ### Status reads -/

/-- Every STATUS_READ taken answers the part asked for of its record as it stands: part number, number of parts, the part's at
most 46 bytes; BAD_REQUEST at or beyond the number of parts and for an argument out of range; an empty LOG record is one part
without bytes. No read changes anything but the reply, and the parts in order make the record. The bytes of the thirteen
records are those of the fields of Tables 1-3 and 6-5, 6-4, 2-7, 3-7, 4-3, R91, Table 7-5, R144, Table 9-5, R173, R177, R178
and Table 10-9, in their order (R11, R43, R61, R73, R91, R112, R127, R144, R158, R159, R167, R173, R177, R178). The claimed
entry of a LINK read (log 13), the way records and counters without a count byte (log 14), the width of the speeds (log 15),
the codes and absent fields that R159 gives only in general (log 16), and the period time while a period start is overdue (log
26) are the model's readings. That a refusal's reply is placed before its error is recorded is read by inference (log 10). -/
def Obligations.StatusReadsAnswerParts : Prop :=
  (∀ (s : State) (tag : Tag) (part : Byte), Ready s →
    let parts (r : List Byte) : Nat := max 1 ((r.length + 45) / 46)
    let bad : Result := .next (repliedBad tag 0x50 s)
    let reads (c : Instr) (r : List Byte) : Prop :=
      (part.toNat < parts r →
        exec c s = .next (replied tag .done (part :: byte1 (parts r) ++ (r.drop (46 * part.toNat)).take 46) s))
      ∧ (parts r ≤ part.toNat → exec c s = bad)
    reads (.statusReadHost tag part) (hostRecord s) ∧ reads (.statusReadHeat tag part) (heatRecord s)
    ∧ reads (.statusReadConditions tag part) (conditionsRecord s) ∧ reads (.statusReadKeypad tag part) (keypadRecord s)
    ∧ reads (.statusReadRelay tag part) (relayRecord s) ∧ reads (.statusReadOutputs tag part) (outputsRecord s)
    ∧ reads (.statusReadErrors tag part) (errorsRecord s) ∧ reads (.statusReadCounters tag part) (countersRecord s)
    ∧ reads (.statusReadLink tag part) (linkRecord s)
    ∧ (∀ c : Channel, reads (.statusReadProbe tag part (BitVec.ofNat 8 c.val)) (probeRecord c s))
    ∧ (∀ n : Fin 8, reads (.statusReadActions tag part (BitVec.ofNat 8 n.val)) (actionsRecord n s))
    ∧ (∀ (l : Fin 4) (p : Position),
        reads (.statusReadKeymap tag part (BitVec.ofNat 8 l.val) (BitVec.ofNat 8 p.val)) (keymapRecord l p s))
    ∧ (∀ k : Fin 8, reads (.statusReadLog tag part (BitVec.ofNat 8 k.val))
        ((s.hpc.log.reverse[k.val]?.map logBytes).getD []))
    ∧ (∀ a b : Byte,
      (16 ≤ a.toNat → exec (.statusReadProbe tag part a) s = bad)
      ∧ (8 ≤ a.toNat → exec (.statusReadActions tag part a) s = bad ∧ exec (.statusReadLog tag part a) s = bad)
      ∧ (4 ≤ a.toNat ∨ 64 ≤ b.toNat → exec (.statusReadKeymap tag part a b) s = bad)))
  ∧ (∀ r : List Byte, r.length ≤ 11730 →
    ((List.range (partCount r)).flatMap (partOf r) = r) ∧ (∀ k : Nat, (partOf r k).length ≤ 46))
  ∧ (∀ (f : Fin 16 → Bool) (o : Fin 16), (wordOf f).getLsbD o = f o)
  ∧ (∀ s : State,
    let b1 (n : Nat) : List Byte := [BitVec.ofNat 8 n]
    let b2 (n : Nat) : List Byte := [BitVec.ofNat 8 (n / 256), BitVec.ofNat 8 n]
    let b4 (n : Nat) : List Byte :=
      [BitVec.ofNat 8 (n / 16777216), BitVec.ofNat 8 (n / 65536), BitVec.ofNat 8 (n / 256), BitVec.ofNat 8 n]
    let i2 (v : Int) : List Byte := b2 (v % 65536).toNat
    let i4 (v : Int) : List Byte := b4 (v % 4294967296).toNat
    let w2 (w : Word) : List Byte := b2 w.toNat
    let flag (b : Bool) : List Byte := if b then [1] else [0]
    let absent (n : Nat) : List Byte := List.replicate (n + 1) 0
    let may (n : Nat) (field : Option (List Byte)) : List Byte := match field with
      | some b => 1 :: b
      | none => absent n
    let host : Nat := match s.hpc.host with
      | .standby => 0 | .preheat => 1 | .soak => 2 | .rails => 3 | .boot => 4 | .run => 5 | .warn => 6 | .restart => 7
      | .powerCycle => 8 | .lockout => 9 | .drain => 10
    let layer : Nat := match s.keymap.stack with
      | top :: _ => top.layer.val
      | [] => 0
    let left (t : Timer) : Nat := (t.start + t.span - s.now) / 8
    let timer : Option Timer := match s.hpc.host with
      | .boot => s.hpc.bootTimer | .run => s.hpc.heartbeatTimer | .warn => s.hpc.graceTimer | .restart => s.hpc.pulseTimer
      | .powerCycle => s.hpc.powerOffTimer | .lockout => s.hpc.retryTimer
      | .standby | .preheat | .soak | .rails | .drain => none
    -- HOST
    hostRecord s
      = (match s.hpc.start.kind with | .none => [0] | .normal => [1] | .forced => [2])
        ++ b4 s.hpc.start.uptime ++ may 2 (s.hpc.start.lowest.map i2) ++ b1 s.hpc.start.failedTests
        ++ b1 host ++ may 4 (timer.map fun t => b4 (left t))
        ++ may 2 (s.hpc.stableTimer.map fun t => b2 ((s.now - t.start) / 8000)) ++ b1 s.hpc.softCount
        ++ b1 s.hpc.hardList.length ++ s.hpc.hardList.flatMap b4
        ++ may 1 (s.hpc.pendingRestart.map fun k => match k with | .soft => [0] | .hard => [1])
        ++ may 1 (s.hpc.lastSeq.map fun b => [b]) ++ b1 s.hpc.log.length
    -- LOG
    ∧ (∀ r : LogRecord,
      let before : Nat := match r.before with
        | .standby => 0 | .preheat => 1 | .soak => 2 | .rails => 3 | .boot => 4 | .run => 5 | .warn => 6 | .restart => 7
        | .powerCycle => 8 | .lockout => 9 | .drain => 10
      logBytes r
        = b2 r.sequence
          ++ (match r.cause with
            | .watchdogExpiry => [0] | .bootTimeout => [1] | .railFault => [2] | .serviceRequest => [3] | .hostRequest => [4])
          ++ (match r.action with | .soft => [0] | .hard => [1] | .lockout => [2])
          ++ b1 before ++ b4 r.uptime ++ may 2 (r.lowest.map i2) ++ b1 r.hardLength ++ b1 r.softCount)
    -- HEAT
    ∧ (let zone (z : Zone) : List Byte :=
        let x := s.heat.zones[z]
        let e := s.probe.table[s.heat.records[z].channel]
        let c := s.probe.chans[s.heat.records[z].channel]
        let value : Option Sample := if e.valid = true ∧ e.kind = .temperature then c.last else none
        (if value.isSome then (if c.missing then [1] else [0]) else [2]) ++ may 2 (value.map fun v => i2 v.value)
        ++ may 2 (x.working.map i2) ++ b1 x.request ++ b1 x.grant ++ flag x.cut ++ b1 x.cutDemand ++ b1 x.onStreak
        ++ b1 x.restCount ++ b1 x.holdCount ++ may 1 (x.held.map b1) ++ flag (!x.output)
      let budget : Nat := match s.hpc.host with
        | .standby | .powerCycle | .lockout => s.heat.budget.standby
        | .preheat | .soak => s.heat.budget.preheat
        | .rails | .boot | .restart => s.heat.budget.inrush
        | .run | .warn | .drain => s.heat.budget.run
      let time : Nat := match s.heat.periodStart with
        | some p => min (s.now - p) 7999 / 8
        | none => 0
      heatRecord s = b2 budget ++ flag s.heat.limited ++ b2 time ++ b1 4 ++ zone 0 ++ zone 1 ++ zone 2 ++ zone 3)
    -- PROBE
    ∧ (∀ c : Channel,
      let x := s.probe.chans[c]
      probeRecord c s
        = b1 c.val
          ++ (match x.poll with | .off => [0] | .waiting => [1] | .queued => [2] | .inFlight => [3] | .inFlightDue => [4])
          ++ may 2 (x.due.map fun d => b2 ((d - s.now) / 8)) ++ may 2 (x.interval.map b2) ++ flag x.last.isSome
          ++ flag x.missing ++ b1 x.misses ++ may 2 (x.last.map fun v => i2 v.value)
          ++ may 4 (x.last.map fun v => b4 (min ((s.now - v.moment) / 8) 65535000))
          ++ b1 ((List.finRange 16).filter fun d => s.probe.chans[d].poll = .queued).length)
    -- CONDITIONS
    ∧ conditionsRecord s
      = w2 (wordOf fun n => condition s ⟨n.val, by omega⟩) ++ b1 s.flags.toNat ++ b1 host ++ b1 s.keymap.stack.length
    -- ACTIONS
    ∧ (∀ n : Fin 8,
      let rule (i : Slot) : List Byte := match s.acts.entries[i] with
        | some (.sample r) =>
          [1] ++ b1 r.channel.val ++ b1 r.condition.val ++ (match r.compare with | .above => [0] | .below => [1])
          ++ i4 r.threshold ++ b2 r.hysteresis ++ (match r.stale with | .hold => [0] | .trip => [1])
          ++ (match r.edge with
            | .none => [0, 0] | .setFlag f => 1 :: b1 f.val | .clearFlag f => 2 :: b1 f.val | .notify => [3, 0])
          ++ (match r.level with
            | .none => [0, 0] | .cutZone z => 1 :: b1 z.val | .forceOn o => 2 :: b1 o.val | .forceOff o => 3 :: b1 o.val)
          ++ flag r.report ++ flag s.acts.rules[i].tripped ++ b1 s.acts.rules[i].trips
        | some (.guard g) =>
          [1] ++ b1 (16 + g.window.val) ++ b1 g.condition.val
          ++ b1 ((if g.coversRead then 1 else 0) + (if g.coversWrite then 2 else 0))
        | none => [0]
      let way (w : Fin 4) : List Byte :=
        flag (decide (w.val < s.acts.lock.val)) ++ rule ⟨n.val * 4 + w.val, by omega⟩
      actionsRecord n s = b1 s.acts.lock.val ++ flag s.acts.protect ++ way 0 ++ way 1 ++ way 2 ++ way 3)
    -- KEYPAD
    ∧ (let code (p : Position) : Byte := match s.pad.positions[p].state with
        | .open => 0 | .closing => 1 | .closed => 2 | .masked => 3 | .opening => 4 | .stuck => 5
      keypadRecord s
        = b1 s.pad.count ++ may 2 (s.pad.basis.map i2) ++ b1 s.pad.record.scanPeriod ++ flag s.pad.record.ghostMasking
          ++ b1 ((List.finRange 64).filter fun p => decide (2 ≤ (code p).toNat)).length
          ++ b1 64 ++ (List.finRange 64).map code)
    -- KEYMAP
    ∧ (∀ (l : Fin 4) (p : Position),
      let entry : List Byte := match s.keymap.entries[(⟨l.val * 64 + p.val, by omega⟩ : KeySlot)] with
        | .none => [0] | .transparent => [1] | .clearOne => [4] | .clearAll => [5]
        | .plain code => 2 :: b1 code
        | .layer m c n d => 3 :: b1 m.val ++ b1 c.val ++ b1 n ++ b2 d
        | .service f c => 6 :: (match f with
            | .wake => [0, 0] | .ackLockout => [1, 0] | .requestRestart => [2, 0] | .requestShutdown => [3, 0]
            | .setFlag n => 4 :: b1 n.val | .clearFlag n => 5 :: b1 n.val) ++ b1 c.val
      let x := s.keymap.positions[p]
      let kind (k : KeyKind) : List Byte := match k with
        | .none => [0] | .transparent => [1] | .plain => [2] | .layer => [3] | .clearOne => [4] | .clearAll => [5] | .service => [6]
      let pushed (e : StackEntry) : List Byte :=
        b1 e.layer.val ++ b1 e.position.val ++ b1 e.termination.val ++ flag e.counted ++ b1 e.count ++ b2 e.idle ++ flag e.held
      keymapRecord l p s
        = entry ++ may 2 (x.resolution.map fun r => kind r.1 ++ b1 r.2.val) ++ may 1 (x.code.map b1) ++ flag x.reported
          ++ may 5 (x.arm.map fun a => b2 (left a.timer) ++ b1 a.layer.val ++ b1 a.termination.val ++ b1 a.count)
          ++ b2 s.keymap.layerTimeout ++ b1 layer ++ b1 s.keymap.stack.length
          ++ b1 s.keymap.stack.length ++ s.keymap.stack.reverse.flatMap pushed)
    -- RELAY
    ∧ (let held (flying : Bool) (e : RelayEntry) : List Byte :=
        b1 e.tag.val ++ (match e.op with | .read => [1] | .write => [2]) ++ w2 e.address ++ b1 e.window.val ++ b1 e.module
        ++ b1 e.register ++ b1 e.length
        ++ (match e.op with | .read => [0, 0] | .write => 1 :: b1 e.data.length ++ e.data) ++ flag flying
      let window (e : WindowEntry) : List Byte :=
        flag e.valid ++ w2 e.base ++ w2 e.mask ++ b1 e.module ++ b1 e.regBase
        ++ (match e.access with | .readOnly => [0] | .writeOnly => [1] | .readWrite => [2])
      let carried : Bool := s.relay.link.any fun l => decide (l.use = .relay)
      let windows := s.relay.windows
      relayRecord s
        = (match s.relay.link.map Link.use with | none => [0] | some .relay => [1] | some (.poll _ _) => [2] | some .orphan => [3])
          ++ (match s.relay.lastServed with | .relay => [0] | .poll => [1]) ++ [s.relay.seq] ++ b1 s.probe.poll.fieldTimeout
          ++ b1 s.relay.queue.length
          ++ (match s.relay.queue with | e :: rest => held carried e ++ rest.flatMap (held false) | [] => [])
          ++ b1 8 ++ window windows[0] ++ window windows[1] ++ window windows[2] ++ window windows[3]
          ++ window windows[4] ++ window windows[5] ++ window windows[6] ++ window windows[7])
    -- OUTPUTS
    ∧ outputsRecord s
      = w2 s.outs.hostWord ++ w2 s.outs.planeMask ++ w2 s.outs.foreground ++ flag s.outs.indicator ++ b1 layer
        ++ w2 (effectiveWord s) ++ w2 (wordOf fun o => decide (0 < s.outs.forceOn[o]))
        ++ w2 (wordOf fun o => decide (0 < s.outs.forceOff[o]))
    -- ERRORS
    ∧ errorsRecord s
      = w2 s.errs.flags ++ w2 s.errs.ignore ++ flag s.errs.multiple
        ++ may 14 (s.errs.detail.map fun d => b1 d.cls.bit.val ++ b4 d.time ++ may 1 (d.fields.tag.map fun g => b1 g.val)
          ++ may 2 (d.fields.address.map w2) ++ may 1 (d.fields.opCode.map fun b => [b]) ++ may 1 (d.fields.index.map b1))
    -- COUNTERS
    ∧ countersRecord s
      = b1 s.counters[0].select.code ++ b4 s.counters[0].count ++ b1 s.counters[1].select.code ++ b4 s.counters[1].count
    -- LINK
    ∧ (let rate (v : Speed) : List Byte := match v with | .low => b4 115200 | .high => b4 460800
      let claimed : Nat := match s.imageState with | .storing _ (some _) _ => 1 | _ => 0
      linkRecord s
        = (match s.imageState with | .valid => [0] | .factory => [1] | .storing _ _ _ => [2]) ++ rate s.panel.speed
          ++ (match s.store with | .image i => rate i.speed | _ => b4 115200) ++ b1 s.panel.replies.length
          ++ b1 (s.panel.replies.length + s.relay.queue.length + claimed + 1) ++ b1 s.panel.notices.length))

/-! ### Frames and relayed commands -/

/-- What happens to frames before they reach an owner: outside BOOT, RUN, WARN and DRAIN every frame and line error leaves no
trace; a failed check and an over-long length byte record HOST_CHECK; a malformed frame is answered BAD_REQUEST with its tag
and address and recorded with tag and op code; with no unoccupied entry any frame is discarded and REPLY_OVERRUN recorded; an
idle gap only drops the frame partly received (R160 to R162). That a term with a payload of a length its op does not have, a
3-byte payload given to the entry form of LOAD_KEYMAP among them, is the malformed frame is the model's choice (log 8). That a
refusal's reply is placed before its error is recorded is read by inference (log 10). -/
def Obligations.FramesAreCheckedBeforeTheyAreTaken : Prop :=
  ∀ s : State,
    let dropped := { s with panel := { s.panel with partialFrame := [] } }
    (Calm s → exec .frameIdleAbandon s = .next (startTransmit dropped))
    ∧ (s.hpc.host.delivers = false →
      exec .hostCheckFrame s = .next s ∧ exec .frameLengthAbandon s = .next dropped
      ∧ (∀ tag op a, exec (.malformedFrame tag op a) s = .next s)
      ∧ (∀ i tag a p, frameFields i = some (tag, a, p) → exec i s = .next s))
    ∧ (Calm s → s.hpc.host.delivers = true →
      exec .hostCheckFrame s = .next (startTransmit (recordError .hostCheck {} s))
      ∧ exec .frameLengthAbandon s = .next (startTransmit (recordError .hostCheck {} dropped)))
    ∧ (Calm s → s.hpc.host.delivers = true → 12 ≤ occupied s → ∀ tag : Tag,
      let overrun : Result := .next (startTransmit (recordError .replyOverrun { tag := some tag } s))
      (∀ op a, exec (.malformedFrame tag op a) s = overrun)
      ∧ (∀ i a p, frameFields i = some (tag, a, p) → exec i s = overrun))
    ∧ (Ready s → ∀ (tag : Tag) (a : Addr),
      let malformed (op : Byte) : Result :=
        .next (startTransmit (recordError .badRequest { tag := some tag, opCode := some op }
          (placeReply { tag := tag, address := a, status := .badRequest, payload := [] } s)))
      (∀ op, exec (.malformedFrame tag op a) s = malformed op)
      ∧ (∀ i p op, frameFields i = some (tag, a, p) → opCode i = some op → i.wellFormed = false →
        exec i s = malformed (BitVec.ofNat 8 op)))

/-- A READ or WRITE taken: the take checks in the order of Table 9-2, the first that fails refusing it with its status, its
error record and one RELAY_REFUSED event: STATE in DRAIN, NO_TARGET, DENIED, GUARDED, TAG_BUSY, QUEUE_FULL. A command that
passes them joins the queue as its newest entry with what the check resolved, and the arbiter is asked. The routing window is
the lowest-numbered valid one that the address matches (R85, R146 to R148). That a refusal's reply is placed before its error
is recorded is read by inference (log 10). -/
def Obligations.TakeChecksRefuseInOrder : Prop :=
  ∀ (s : State) (tag : Tag) (a : Addr) (n : Byte) (d : List Byte), Ready s →
    let matched (w : Fin 8) : Bool := (s.relay.windows[w]).valid
      && (allSlots.take 16).all fun i =>
        (s.relay.windows[w]).mask.getLsbD i.val || a.getLsbD i.val == (s.relay.windows[w]).base.getLsbD i.val
    let routed (w : Fin 8) : Prop := matched w = true ∧ ∀ v < w, matched v = false
    let register (w : Fin 8) : Nat := (s.relay.windows[w]).regBase + (a &&& (s.relay.windows[w]).mask).toNat
    let guarded (w : Fin 8) (op : RelayOp) : Bool := (List.finRange 4).any fun y =>
      match s.acts.entries[slotOf w y] with
      | some (.guard g) => g.window = w && (if op = .read then g.coversRead else g.coversWrite) && condition s g.condition
      | _ => false
    let busy : Bool := s.relay.queue.any fun e => e.tag = tag
    let takes (c : Instr) (op : RelayOp) (length : Nat) (data : List Byte) : Prop :=
      let refused (st : Status) (t : State → State) : Result :=
        .next (startTransmit (countEvent .relayRefused
          (t (placeReply { tag := tag, address := a, status := st, payload := [] } s))))
      let admits (w : Fin 8) : Prop := (s.relay.windows[w]).access = .readWrite
        ∨ (s.relay.windows[w]).access = (if op = .read then .readOnly else .writeOnly)
      (s.hpc.host = .drain → exec c s = refused .state id)
      ∧ (s.hpc.host ≠ .drain → (∀ w, matched w = false) →
          exec c s = refused .noTarget (recordError .noTarget { tag := some tag, address := some a }))
      ∧ (∀ w, s.hpc.host ≠ .drain → routed w →
        (255 < register w → exec c s = refused .noTarget (recordError .noTarget { tag := some tag, address := some a }))
        ∧ (register w ≤ 255 → ¬ admits w →
          exec c s = refused .denied (recordError .denied { tag := some tag, address := some a, index := some w.val }))
        ∧ (register w ≤ 255 → admits w → guarded w op = true →
          exec c s = refused .guarded (recordError .guarded { tag := some tag, address := some a, index := some w.val }))
        ∧ (register w ≤ 255 → admits w → guarded w op = false → busy = true →
          exec c s = refused .tagBusy (recordError .tagBusy { tag := some tag, address := some a }))
        ∧ (register w ≤ 255 → admits w → guarded w op = false → busy = false → 8 ≤ s.relay.queue.length →
          exec c s = refused .queueFull (recordError .queueFull { tag := some tag, address := some a }))
        ∧ (register w ≤ 255 → admits w → guarded w op = false → busy = false → s.relay.queue.length < 8 →
          let e : RelayEntry :=
            { tag := tag, op := op, address := a, window := w, module := (s.relay.windows[w]).module
              register := register w, length := length, data := data }
          exec c s = .next (startTransmit
            (arbitrate { s with relay := { s.relay with queue := s.relay.queue ++ [e] } }))))
    (1 ≤ n.toNat → n.toNat ≤ 16 → takes (.read tag a n) .read n.toNat [])
    ∧ (1 ≤ d.length → d.length ≤ 16 → takes (.write tag a d) .write d.length d)

/-- The end of a relayed transaction answers the oldest command by Table 9-4: ACK with the data a READ asked for, or without
data for a WRITE, DONE and one RELAY_DONE event; other ACKs and failing checks FIELD_CHECK; NAK FIELD_REFUSED; the field
timeout FIELD_TIMEOUT, each recorded with tag, address and window. The command leaves the relay, which in DRAIN's wait phase
may begin rail-off, and the arbiter is asked. A reply that names another module or sequence, one for an ORPHAN and one on an
idle link count LATE_REPLY; an ORPHAN ends with it or its timeout. A reply whose count is above 16 or whose CRC fails is taken
for the transaction in flight; bytes that complete no reply are dropped. The field timeout starts at the end of the request,
and a gap only drops the bytes received (R149, R151, R152). The moment at which an expiry command acts is the model's choice
(log 3), and so is that a reply completed while the request is still being sent is taken like any other (log 37); bytes behind
a reply's end are ignored (log 22). That a reply is placed before its error is recorded is read by inference (log 10). -/
def Obligations.RelayedTransactionsEndAsTheirReplySays : Prop :=
  ∀ (s : State) (first : Bool), Calm s →
    let clean := { s with relay := { s.relay with partialReply := [] } }
    let idle (u : State) : State := { u with relay := { u.relay with link := none } }
    let count (b : List Byte) : Nat := (b.getD 3 0).toNat
    let partly (b : List Byte) : Prop := b.length < 4 ∨ (count b ≤ 16 ∧ b.length < 6 + count b)
    let broken (b : List Byte) : Prop := 4 ≤ b.length ∧ (16 < count b
      ∨ (6 + count b ≤ b.length ∧ crc16 (b.take (4 + count b)) ≠ word16 b (4 + count b)))
    (∀ b : List Byte, s.power ≠ .off →
      (partly b → exec (.fieldReply b first) s = .next (startTransmit clean))
      ∧ (broken b → s.relay.link = none →
        exec (.fieldReply b first) s = .next (startTransmit (countEvent .lateReply clean)))
      ∧ (broken b → ∀ l : Link, s.relay.link = some l → l.use = .orphan →
        exec (.fieldReply b first) s = .next (startTransmit (arbitrate (countEvent .lateReply (idle clean)))))
      ∧ (broken b → ∀ l : Link, s.relay.link = some l → l.use = .relay →
        ∀ (e : RelayEntry) (rest : List RelayEntry), s.relay.queue = e :: rest →
        exec (.fieldReply b first) s = .next (startTransmit (arbitrate (reportRelayEmpty (recordError .fieldCheck
          { tag := some e.tag, address := some e.address, index := some e.window.val }
          (placeReply { tag := e.tag, address := e.address, status := .fieldCheck, payload := [] }
            { s with relay := { s.relay with queue := rest, link := none, partialReply := [] } })))))))
    ∧ (s.relay.link = none → exec .cPortRequestEnd s = .next (startTransmit s))
    ∧ exec .cPortReplyGap s = .next (startTransmit clean)
    ∧ (s.power ≠ .off → s.relay.link = none → ∀ (m : Nat) (q a : Byte) (data : List Byte), m ≤ 31 → data.length ≤ 16 →
        exec (.fieldReply (fieldReplyBytes m q a data) first) s = .next (startTransmit (countEvent .lateReply clean)))
    ∧ (∀ l : Link, s.relay.link = some l →
      let w := l.request.module
      let q := l.request.sequence
      let reply (a : Byte) (data : List Byte) : Result := exec (.fieldReply (fieldReplyBytes w q a data) first) s
      let body (a : Byte) (data : List Byte) : List Byte := byte1 w ++ [q, a] ++ byte1 data.length ++ data
      (l.timeout = none → exec .cPortRequestEnd s = .next (startTransmit { s with relay := { s.relay with
        link := some { l with timeout := some { start := s.now, span := ms s.probe.poll.fieldTimeout } } } }))
      ∧ (l.timeout ≠ none → exec .cPortRequestEnd s = .next (startTransmit s))
      ∧ (s.power ≠ .off → w ≤ 31 →
        (∀ (m : Nat) (r a : Byte) (data : List Byte), m ≤ 31 → a = 1 ∨ a = 2 → data.length ≤ 16 → m ≠ w ∨ r ≠ q →
          exec (.fieldReply (fieldReplyBytes m r a data) first) s = .next (startTransmit (countEvent .lateReply clean)))
        ∧ (l.use = .orphan → ∀ (a : Byte) (data : List Byte), data.length ≤ 16 →
          reply a data = .next (startTransmit (arbitrate (countEvent .lateReply (idle clean)))))
        ∧ (∀ (e : RelayEntry) (rest : List RelayEntry), s.relay.queue = e :: rest → l.use = .relay →
          let answered (st : Status) (payload : List Byte) (noted : State → State) : Result :=
            .next (startTransmit (arbitrate (reportRelayEmpty (noted (placeReply
              { tag := e.tag, address := e.address, status := st, payload := payload }
              { s with relay := { s.relay with queue := rest, link := none, partialReply := [] } })))))
          let fails (st : Status) (c : ErrorClass) : Result := answered st [] (recordError c
            { tag := some e.tag, address := some e.address, index := some e.window.val })
          (∀ data, e.op = .read → data.length = e.length → e.length ≤ 16 →
            reply 1 data = answered .done data (countEvent .relayDone))
          ∧ (e.op = .write → reply 1 [] = answered .done [] (countEvent .relayDone))
          ∧ (∀ data, data.length ≤ 16 → (e.op = .read ∧ data.length ≠ e.length) ∨ (e.op = .write ∧ data ≠ []) →
            reply 1 data = fails .fieldCheck .fieldCheck)
          ∧ (∀ data, data.length ≤ 16 → reply 2 data = fails .fieldRefused .fieldRefused)
          ∧ (∀ a data, data.length ≤ 16 → a ≠ 1 → a ≠ 2 → reply a data = fails .fieldCheck .fieldCheck)
          ∧ (∀ (a : Byte) (data : List Byte) (k : Word), data.length ≤ 16 → k ≠ crc16 (body a data) →
            exec (.fieldReply (body a data ++ wordBytes k) first) s = fails .fieldCheck .fieldCheck)))
      ∧ (∀ t : Timer, l.timeout = some t →
        let late := { s with now := max s.now t.deadline }
        (l.use = .orphan → exec (.fieldTimeoutExpiry first) s = .next (startTransmit (arbitrate (idle late))))
        ∧ (∀ (e : RelayEntry) (rest : List RelayEntry), s.relay.queue = e :: rest → l.use = .relay →
          exec (.fieldTimeoutExpiry first) s = .next (startTransmit (arbitrate (reportRelayEmpty (recordError .fieldTimeout
            { tag := some e.tag, address := some e.address, index := some e.window.val }
            (placeReply { tag := e.tag, address := e.address, status := .fieldTimeout, payload := [] }
              { late with relay := { s.relay with queue := rest, link := none } }))))))))

/-! ### Polls -/

/-- The end of a poll hands its result over, before or after the arbiter's next grant: a result that no longer belongs to its
channel is discarded; two data bytes in the kind's range are a good sample, which updates the sample state and is then
delivered to the rules of ways 0 to 3, the gate and the debounce count; anything else is a miss, counted to at most 15 with
one POLL_MISSES event, recording FIELD_CHECK for a failing check or another number of bytes unless the channel is already
missing (log 35), and at the stale limit starting a missing episode. A reply whose count is above 16 or whose CRC fails is a
failing check (R149, R150). Then the channel waits, or joins the poll queue when its due time has passed (R49, R52 to R57).
Moments, and orders the manual leaves open, are the model's choices (log 3, log 9), among them action table, gate, debounce
count at a good sample and action table before gate at a missing episode (log 11), and that a reply completed while the
request is still being sent is taken like any other (log 37); bytes behind a reply's end are ignored (log 22). -/
def Obligations.PollResultsUpdateTheChannel : Prop :=
  (∀ (s : State) (first : Bool) (l : Link), s.relay.link = some l → Calm s → ∀ (c : Channel) (owned : Bool), l.use = .poll c owned →
    let idle := { s with relay := { s.relay with link := none, partialReply := [] } }
    let ends (u : State) (r : FieldResult) : Result := .next (startTransmit (arbitrate
      (takeResult c owned r (if first then u else arbitrate u))))
    let reply (a : Byte) (data : List Byte) : Result :=
      exec (.fieldReply (fieldReplyBytes l.request.module l.request.sequence a data) first) s
    (s.power ≠ .off → l.request.module ≤ 31 → ∀ (a : Byte) (data : List Byte), data.length ≤ 16 →
      (a = 1 → reply a data = ends idle (.ack data)) ∧ (a = 2 → reply a data = ends idle .nak)
      ∧ (a ≠ 1 → a ≠ 2 → reply a data = ends idle .checkFailed))
    ∧ (s.power ≠ .off → ∀ b : List Byte,
      let n := (b.getD 3 0).toNat
      4 ≤ b.length → 16 < n ∨ (6 + n ≤ b.length ∧ crc16 (b.take (4 + n)) ≠ word16 b (4 + n)) →
        exec (.fieldReply b first) s = ends idle .checkFailed)
    ∧ (∀ t : Timer, l.timeout = some t → exec (.fieldTimeoutExpiry first) s
        = ends { s with now := max s.now t.deadline, relay := { s.relay with link := none } } .timeout))
  ∧ (∀ (s : State) (c : Channel) (r : FieldResult),
    let x := s.probe.chans[c]
    let put (y : ChannelState) : State := { s with probe := { s.probe with chans := vset s.probe.chans c y } }
    let usesGate : Bool := allZones.any fun z => s.heat.records[z].gateMask && s.heat.records[z].channel = c
    let usesKeypad : Bool := s.pad.record.zone.any fun z => s.heat.records[z].channel = c
    let gate (u : State) : State := if usesGate then evaluateGate u else u
    let after (u : State) : State :=
      let y := u.probe.chans[c]
      match y.poll with
      | .inFlight => { u with probe := { u.probe with chans := vset u.probe.chans c { y with poll := .waiting } } }
      | .inFlightDue =>
        { u with probe := { u.probe with chans := vset u.probe.chans c { y with poll := .queued, joined := some u.now } } }
      | .off | .waiting | .queued => u
    let good (v : Int) : State :=
      let way (k : Fin 4) (u : State) : State := evaluateSlot c v u (slotOf ⟨c.val % 8, by omega⟩ k)
      let u := gate (way 3 (way 2 (way 1 (way 0
        (put { x with last := some { value := v, moment := s.now }, misses := 0, missing := false })))))
      after (if usesKeypad then recomputeDebounce u else u)
    let miss (checked : Bool) : State :=
      let n := min (x.misses + 1) 15
      let u := countEvent .pollMisses (put { x with misses := n })
      let v := if checked = true ∧ x.missing = false then recordError .fieldCheck { index := some c.val } u else u
      let gone := { v with probe := { v.probe with chans := vset v.probe.chans c { x with misses := n, missing := true } } }
      after (if x.missing = false ∧ s.probe.table[c].staleLimit ≤ n then
        gate (staleReport c (recordError .probeMissing { index := some c.val } gone)) else v)
    takeResult c false r s = s
    ∧ (∀ data : List Byte, data.length ≠ 2 → takeResult c true (.ack data) s = miss true)
    ∧ takeResult c true .checkFailed s = miss true ∧ takeResult c true .nak s = miss false
    ∧ takeResult c true .timeout s = miss false
    ∧ (∀ v : Int, -32768 ≤ v → v ≤ 32767 → s.probe.table[c].kind = .temperature →
      (-550 ≤ v ∧ v ≤ 1250 → takeResult c true (.ack (int2 v)) s = good v)
      ∧ (¬ (-550 ≤ v ∧ v ≤ 1250) → takeResult c true (.ack (int2 v)) s = miss false))
    ∧ (∀ v : Nat, v ≤ 65535 → s.probe.table[c].kind = .raw → takeResult c true (.ack (byte2 v)) s = good v))
  ∧ (∀ (s : State) (c : Channel), Calm s →
    let x := s.probe.chans[c]
    let put (u : State) (y : ChannelState) : State := { u with probe := { s.probe with chans := vset s.probe.chans c y } }
    (∀ t, x.due = some t →
      let u := { s with now := max s.now t }
      (x.poll = .waiting → exec (.dueTimeReached c) s
        = .next (startTransmit (arbitrate (put u { x with poll := .queued, joined := some u.now }))))
      ∧ (x.poll = .inFlight → exec (.dueTimeReached c) s = .next (startTransmit (put u { x with poll := .inFlightDue }))))
    ∧ (x.due = none ∨ (x.poll ≠ .waiting ∧ x.poll ≠ .inFlight) →
        exec (.dueTimeReached c) s = .next (startTransmit s)))

/-- The arbiter: a busy link or nothing waiting grants nothing; the poll head, least by due time and then channel number, is
granted when it waits alone, when it is late by half its interval, or when the relay was served last; otherwise the oldest
command is granted, unless its guard now holds: then it is answered GUARDED, recorded and counted, dispatches nothing, and the
arbiter grants again. A dispatch increments the sequence, and a poll's sets the next due time by the effective interval,
halved for cold doubling under ANY_COLD (R48, R50, R51, R149, R153, R154). That a reply is placed before its error is recorded
is read by inference (log 10). -/
def Obligations.ArbiterAlternatesUnlessAPollIsLate : Prop :=
  ∀ s : State,
    let queued (c : Channel) : Bool := s.probe.chans[c].poll = .queued
    let due (c : Channel) : Nat := s.probe.chans[c].due.getD 0
    let head (c : Channel) : Prop := queued c = true ∧ ∀ d : Channel, queued d = true → d ≠ c →
      due c < due d ∨ (due c = due d ∧ c < d)
    let classed (c : Channel) : Nat := s.probe.poll.classInterval s.probe.table[c].interval
    let late (c : Channel) : Bool := s.probe.chans[c].joined.any fun j =>
      ms ((s.probe.chans[c].interval.getD (classed c)) / 2) ≤ s.now - j
    let begun (use : LinkUse) (m : Nat) (op : RelayOp) (reg len : Nat) (data : List Byte) (served : Party) : Relay :=
      { s.relay with
        seq := s.relay.seq + 1, lastServed := served
        link := some { use := use, timeout := none, request :=
          { module := m, op := op, sequence := s.relay.seq + 1, register := reg, length := len, data := data } } }
    (s.relay.link ≠ none → arbitrate s = s)
    ∧ (s.relay.queue = [] → (∀ c, queued c = false) → arbitrate s = s)
    ∧ (∀ c : Channel, s.relay.link = none → head c →
        s.relay.queue = [] ∨ late c = true ∨ s.relay.lastServed = .relay →
      let e := s.probe.table[c]
      let i := if e.coldDoubling = true ∧ condition s 3 = true then classed c / 2 else classed c
      arbitrate s = countEvent .polls
        { s with
          relay := begun (.poll c true) e.module .read e.register 2 [] .poll
          probe := { s.probe with chans := vset s.probe.chans c { s.probe.chans[c] with
            poll := .inFlight, due := some (s.now + ms i), joined := none, interval := some i } } })
    ∧ (∀ (e : RelayEntry) (rest : List RelayEntry), s.relay.queue = e :: rest → s.relay.link = none →
        (∀ c, queued c = false) ∨ (s.relay.lastServed = .poll ∧ ∀ c, head c → late c = false) →
      (guardHolds s e.window e.op = false →
        arbitrate s = { s with relay := begun .relay e.module e.op e.register e.length e.data .relay })
      ∧ (guardHolds s e.window e.op = true →
        arbitrate s = arbitrate (reportRelayEmpty (countEvent .relayRefused (recordError .guarded
          { tag := some e.tag, address := some e.address, index := some e.window.val }
          (placeReply { tag := e.tag, address := e.address, status := .guarded, payload := [] }
            { s with relay := { s.relay with queue := rest } }))))))

/-! ### The grant computations and the drive windows -/

/-- The grant computations. Stage 4: requests that fit 64 times the budget are granted; otherwise each is scaled down and the
leftover pass, by ascending priority, adds one step to each enabled zone below its request whose current the leftover still
covers. At a control period start the working setpoint, the request with its held value, and the cut flag are computed anew,
stage 4 follows, then the rest limit, and the outputs follow their windows; a limited period is counted. An immediate
recomputation sets cut flags, allocates the stored requests and lowers grants only (R27, R29 to R38, R178). The moment at
which a period start acts (log 3), and the windows of a period whose successor's start is overdue (log 26), are the
model's choice. -/
def Obligations.ControlPeriodsAllocateTheBudget : Prop :=
  (∀ (s : State) (b : Nat) (a i : Zone → Nat),
    let total := a 0 * i 0 + a 1 * i 1 + a 2 * i 2 + a 3 * i 3
    let scaled (z : Zone) : Nat := a z * (64 * b) / total
    let out := allocate b (visitOrder s.heat.records) a i
    let step (z : Zone) : Nat := out.1 z - scaled z
    let left := 64 * b - (scaled 0 * i 0 + scaled 1 * i 1 + scaled 2 * i 2 + scaled 3 * i 3)
    let earlier (y z : Zone) : Bool := s.heat.records[y].enable
      && (s.heat.records[y].priority < s.heat.records[z].priority
        || (s.heat.records[y].priority = s.heat.records[z].priority && decide (y < z)))
    let spent (z : Zone) : Nat :=
      ((if earlier 0 z then step 0 * i 0 else 0) + (if earlier 1 z then step 1 * i 1 else 0))
      + ((if earlier 2 z then step 2 * i 2 else 0) + (if earlier 3 z then step 3 * i 3 else 0))
    (total ≤ 64 * b → (∀ z, out.1 z = a z) ∧ out.2 = false)
    ∧ (64 * b < total → out.2 = true ∧ ∀ z : Zone,
      (s.heat.records[z].enable = true ∧ scaled z < a z ∧ i z + spent z ≤ left → out.1 z = scaled z + 1)
      ∧ (¬ (s.heat.records[z].enable = true ∧ scaled z < a z ∧ i z + spent z ≤ left) → out.1 z = scaled z)))
  ∧ (∀ s : State,
    (Calm s → s.heat.periodStart = none → exec .controlPeriodStart s = .next (startTransmit s))
    ∧ (∀ p, Calm s → s.heat.periodStart = some p → ∃ t, exec .controlPeriodStart s = .next t ∧
      let a (z : Zone) : Nat := if t.heat.zones[z].cut then 0 else t.heat.zones[z].request
      let out := allocate (budgetInForce s) (visitOrder s.heat.records) a fun z => s.heat.records[z].current
      let u := { s with
        now := max s.now (p + 8000)
        heat := { s.heat with zones := t.heat.zones, limited := out.2, periodStart := some (p + 8000) } }
      t = startTransmit (if out.2 then countEvent .limitedPeriods u else u)
      ∧ ∀ z : Zone,
        let r := s.heat.records[z]
        let x := s.heat.zones[z]
        let y := t.heat.zones[z]
        let e := s.probe.table[r.channel]
        let k := s.probe.chans[r.channel]
        let saving : Bool := s.hpc.host = .standby || s.hpc.host = .powerCycle || s.hpc.host = .lockout
        let working := if r.enable = false ∨ (saving = true ∧ (r.keepWarm = false ∨ s.hpc.suppress = true)) then none
          else some (if saving then r.keepWarmSetpoint else r.setpoint)
        let sampled : Bool := e.valid && e.kind = .temperature && k.last.isSome
        let g := out.1 z
        let rests (n : Nat) : Prop := y.grant = min g r.restDuty ∧ y.restCount = n - 1
          ∧ y.onStreak = (if n ≤ 1 then 0 else x.onStreak)
        y.working = working ∧ y.cutDemand = x.cutDemand ∧ (y.cut = true ↔ 0 < x.cutDemand)
        ∧ (working = none → y.request = 0 ∧ y.held = x.held ∧ y.holdCount = x.holdCount)
        ∧ (∀ w, working = some w →
          (∀ v : Sample, k.last = some v → sampled = true ∧ k.missing = false →
            y.held = some y.request ∧ y.holdCount = 0 ∧ y.request ≤ 64
            ∧ (w ≤ v.value → y.request = 0)
            ∧ (v.value < w → w - v.value < r.band →
              (r.band : Int) * ((y.request : Int) - 1) < 64 * (w - v.value)
              ∧ 64 * (w - v.value) ≤ (r.band : Int) * (y.request : Int))
            ∧ (v.value < w → (r.band : Int) ≤ w - v.value → y.request = 64))
          ∧ (sampled = true ∧ k.missing = true → y.held = x.held
            ∧ (∀ q, x.held = some q → x.holdCount < r.holdPeriods → y.request = q ∧ y.holdCount = x.holdCount + 1)
            ∧ (x.held = none ∨ r.holdPeriods ≤ x.holdCount → y.request = r.fallback ∧ y.holdCount = x.holdCount))
          ∧ (sampled = false → y.request = r.fallback ∧ y.held = x.held ∧ y.holdCount = x.holdCount))
        ∧ (0 < x.restCount → rests x.restCount)
        ∧ (x.restCount = 0 → g = 64 → r.maxOn ≠ 0 → x.onStreak = r.maxOn → rests r.restPeriods)
        ∧ (x.restCount = 0 → g = 64 → r.maxOn = 0 ∨ x.onStreak ≠ r.maxOn →
            y.grant = g ∧ y.restCount = 0 ∧ y.onStreak = min (x.onStreak + 1) 255)
        ∧ (x.restCount = 0 → g ≠ 64 → y.grant = g ∧ y.restCount = 0 ∧ y.onStreak = 0)
        ∧ y.output = inWindow z y.grant (min (s.now - (p + 8000)) 7999)))
  ∧ (∀ s : State,
    let cut (z : Zone) : Bool := s.heat.zones[z].cut || decide (0 < s.heat.zones[z].cutDemand)
    let out := allocate (budgetInForce s) (visitOrder s.heat.records)
      (fun z => if cut z then 0 else s.heat.zones[z].request) fun z => s.heat.records[z].current
    let zone (z : Zone) : ZoneState :=
      let g := min (out.1 z) s.heat.zones[z].grant
      { s.heat.zones[z] with
        cut := cut z, grant := g, output := s.heat.zones[z].output && inWindow z g (periodTime s) }
    immediateRecompute s
      = { s with heat := { s.heat with zones := #v[zone 0, zone 1, zone 2, zone 3], limited := out.2 } })

/-- The window of a zone begins its number times 250 ms after the period start, lasts 15.625 ms a step of its grant, and what
reaches past the end of the period lies at its beginning. DRIVE_WINDOW_EDGE: an output that does not show its window at the
present moment is driven at once; otherwise the next edge of the period is taken at its moment, and with none left nothing
happens. Nothing but the output and the moment changes (R40, R42). The moment at which an edge acts (log 3), and the windows
staying at the period's end while the next start is overdue (log 26), are the model's choice. -/
def Obligations.DriveWindowsFollowTheGrants : Prop :=
  (∀ (z : Zone) (g t : Nat), g ≤ 64 → t < 8000 →
    (inWindow z g t = true ↔
      (2000 * z.val ≤ t ∧ t < 2000 * z.val + 125 * g) ∨ t + 8000 < 2000 * z.val + 125 * g))
  ∧ (∀ (s : State) (z : Zone), Calm s →
    let g := s.heat.zones[z].grant
    let shows (t : Nat) (on : Bool) : State :=
      { s with
        now := max s.now t
        heat := { s.heat with zones := vset s.heat.zones z { s.heat.zones[z] with output := on } } }
    (s.heat.periodStart = none → exec (.driveWindowEdge z) s = .next (startTransmit s))
    ∧ (∀ p, s.heat.periodStart = some p →
      let here := min (s.now - p) 7999
      let on := inWindow z g here
      let edges : List Nat := if g = 0 ∨ 64 ≤ g then [] else [2000 * z.val, (2000 * z.val + 125 * g) % 8000]
      (s.heat.zones[z].output ≠ on → exec (.driveWindowEdge z) s = .next (startTransmit (shows 0 on)))
      ∧ (s.heat.zones[z].output = on →
        (∀ e ∈ edges, here < e → (∀ f ∈ edges, here < f → e ≤ f) →
          exec (.driveWindowEdge z) s = .next (startTransmit (shows (p + e) (inWindow z g e))))
        ∧ ((∀ e ∈ edges, e ≤ here) → exec (.driveWindowEdge z) s = .next (startTransmit s)))))

/-! ### Scans -/

/-- A scan starts at its moment and sets the next start one scan period later; none starts during another (log 17). A scan
completion processes the 64 positions in ascending order and, if one left the closed set, visits the masked ones. A position
acts on its reading by its state: a change is accepted when its count reaches N, a press is masked when it completes a rectangle
under ghost masking, a position closed for the stuck time becomes stuck, a reading that flips back returns
(R114, R117 to R123). Moments, and orders the manual leaves open, are the model's choices (log 3, log 9, log 17); that a
position returning from OPENING is not put to the stuck test at that scan and keeps its previous stable state is read by
inference (log 31). -/
def Obligations.ScansDecideEveryPosition : Prop :=
  (∀ s : State, Calm s →
    (s.pad.nextScan = none ∨ s.pad.scanning = true → exec .scanStart s = .next (startTransmit s))
    ∧ (∀ t, s.pad.nextScan = some t → s.pad.scanning = false → exec .scanStart s = .next (startTransmit { s with
        now := max s.now t
        pad := { s.pad with nextScan := some (t + 8 * s.pad.record.scanPeriod), scanning := true } })))
  ∧ (∀ (s : State) (readings first : BitVec 64), Calm s →
    let after := { s with pad := { s.pad with scanning := false } }
    let visit (acc : State × Bool) (p : Position) : State × Bool :=
      let x := scanPosition p (readings.getLsbD p.val) (first.getLsbD p.val) acc.1
      (x.1, acc.2 || x.2)
    let scanned := (List.finRange 64).foldl visit (after, false)
    let unmasked := (List.finRange 64).foldl (fun u p => unmaskIfFree p (first.getLsbD p.val) u) scanned.1
    (s.pad.nextScan = none → exec (.scanComplete readings first) s = .next (startTransmit s))
    ∧ (s.pad.nextScan ≠ none → exec (.scanComplete readings first) s
        = .next (startTransmit (if scanned.2 then unmasked else scanned.1))))
  ∧ (∀ (s : State) (r c : Fin 8) (first : Bool),
    let p : Position := ⟨r.val * 8 + c.val, by omega⟩
    let x := s.pad.positions[p]
    let put (y : PadPosition) : State := { s with pad := { s.pad with positions := vset s.pad.positions p y } }
    let inSet (v d : Fin 8) : Bool :=
      let y := s.pad.positions[(⟨v.val * 8 + d.val, by omega⟩ : Position)]
      y.state = .closed || y.state = .masked || y.state = .opening || y.state = .stuck
    let rectangle : Bool := (List.finRange 8).any fun v => (List.finRange 8).any fun d =>
      v != r && d != c && inSet v c && inSet r d && inSet v d
    let more := min (x.count + 1) 63
    let n := s.pad.count
    let closes := { x with count := 0, closedSince := some s.now }
    let press : State := if s.pad.record.ghostMasking = true ∧ rectangle = true then put { closes with state := .masked }
      else takePress p first (put { closes with state := .closed })
    let opened : State := put { state := .open, count := 0, previous := none, closedSince := none }
    let held : Bool := s.pad.record.stuckTime ≠ 0
      && x.closedSince.any fun m => 8000 * s.pad.record.stuckTime ≤ s.now - m
    let stuck : State := put { x with state := .stuck, count := 0 }
    let free : State := takePress p first (put { x with state := .closed })
    let openings (k : Nat) (v : StableState) : Prop :=
      (k < n → scanPosition p false first s = (put { x with state := .opening, count := k, previous := some v }, false))
      ∧ (n ≤ k → v = .closed → scanPosition p false first s = (takeRelease p false opened, true))
      ∧ (n ≤ k → v = .masked → scanPosition p false first s = (opened, true))
    (x.state = .open → scanPosition p false first s = (s, false)
      ∧ (1 < n → scanPosition p true first s = (put { x with state := .closing, count := 1 }, false))
      ∧ (n ≤ 1 → scanPosition p true first s = (press, false)))
    ∧ (x.state = .closing → scanPosition p false first s = (put { x with state := .open, count := 0 }, false)
      ∧ (more < n → scanPosition p true first s = (put { x with state := .closing, count := more }, false))
      ∧ (n ≤ more → scanPosition p true first s = (press, false)))
    ∧ (x.state = .closed → openings 1 .closed
      ∧ (held = false → scanPosition p true first s = (s, false))
      ∧ (held = true → scanPosition p true first s = (takeRelease p true stuck, false)))
    ∧ (x.state = .masked → openings 1 .masked
      ∧ (held = false → scanPosition p true first s = (s, false))
      ∧ (held = true → scanPosition p true first s = (stuck, false))
      ∧ (rectangle = true → unmaskIfFree p first s = s)
      ∧ (rectangle = false → unmaskIfFree p first s = free))
    ∧ (∀ v, x.previous = some v → x.state = .opening → openings more v
      ∧ (v = .closed → scanPosition p true first s = (put { x with state := .closed, count := 0 }, false))
      ∧ (v = .masked → rectangle = true →
          scanPosition p true first s = (put { x with state := .masked, count := 0 }, false))
      ∧ (v = .masked → rectangle = false →
          scanPosition p true first s = (takePress p first (put { x with state := .closed, count := 0 }), false)))
    ∧ (x.state = .stuck → scanPosition p true first s = (put { x with count := 0 }, false)
      ∧ (more < n → scanPosition p false first s = (put { x with count := more }, false))
      ∧ (n ≤ more → scanPosition p false first s = (opened, true)))
    ∧ (x.state ≠ .masked → unmaskIfFree p first s = s))
end

