-- ==== Sys2Proof/Laws/Operands.lean ====
section
/-! SUPPORT. The fields of a payload read back what their bytes spell (R159). -/

namespace Sys2Proof.Machine

open Sys2Proof

theorem byte_toNat {n : Nat} (h : n < 256) : (BitVec.ofNat 8 n).toNat = n := by simp [BitVec.toNat_ofNat, h]

@[simp] theorem take1_byte1 {n : Nat} (h : n ≤ 255) (p : List Byte) : take1 (byte1 n ++ p) = some (n, p) := by
  simp [take1, byte1, byte_toNat (show n < 256 by omega)]

@[simp] theorem take2_byte2 {n : Nat} (h : n ≤ 65535) (p : List Byte) : take2 (byte2 n ++ p) = some (n, p) := by
  have h1 : n / 256 < 256 := by omega
  simp only [take2, byte2, List.cons_append, List.nil_append, byte_toNat h1, BitVec.toNat_ofNat]
  rw [show 256 * (n / 256) + n % 2 ^ 8 = n by omega]

@[simp] theorem takeInt2_int2 {i : Int} (h : -32768 ≤ i) (h' : i ≤ 32767) (p : List Byte) :
    takeInt2 (int2 i ++ p) = some (i, p) := by
  simp only [takeInt2, int2]
  rw [take2_byte2 (by omega)]
  simp only [Option.some.injEq, Prod.mk.injEq, and_true]
  split <;> omega

@[simp] theorem takeInt4_int4 {i : Int} (h : -2147483648 ≤ i) (h' : i ≤ 2147483647) (p : List Byte) :
    takeInt4 (int4 i ++ p) = some (i, p) := by
  simp only [takeInt4, int4, byte4, List.append_assoc]
  rw [take2_byte2 (by omega)]
  simp only
  rw [take2_byte2 (by omega)]
  simp only [Option.some.injEq, Prod.mk.injEq, and_true]
  split <;> omega

@[simp] theorem takeWord_wordBytes (w : Word) (p : List Byte) : takeWord (wordBytes w ++ p) = some (w, p) := by
  simp [takeWord, wordBytes, take2_byte2 (show w.toNat ≤ 65535 by have := w.isLt; omega)]

@[simp] theorem takeBool_boolByte (b : Bool) (p : List Byte) : takeBool (boolByte b ++ p) = some (b, p) := by
  cases b <;> simp [takeBool, boolByte, byte1]

@[simp] theorem takeFin_byte1 {n : Nat} (hn : n ≤ 256) (i : Fin n) (p : List Byte) :
    takeFin n (byte1 i.val ++ p) = some (i, p) := by
  have h : i.val < 256 := by omega
  simp [takeFin, byte1, byte_toNat h]

/-- A named value is read back from its code. -/
theorem takeNamed_codeOf {α : Type} [DecidableEq α] {values : List α} {v : α} (hv : v ∈ values)
    (hl : values.length ≤ 256) (p : List Byte) : takeNamed values (byte1 (codeOf values v) ++ p) = some (v, p) := by
  have h : codeOf values v < values.length := List.findIdx_lt_length_of_exists ⟨v, hv, by simp⟩
  have e : values[codeOf values v] = v := by
    have := @List.findIdx_getElem _ (fun x => decide (x = v)) values h
    exact of_decide_eq_true this
  simp [takeNamed, byte1, byte_toNat (show codeOf values v < 256 by omega), List.getElem?_eq_getElem h, e]

@[simp] theorem takeEdge_edgeBytes (e : EdgeAction) (p : List Byte) : takeEdge (edgeBytes e ++ p) = some (e, p) := by
  rcases e with _ | f | f | _ <;> first | rfl | (fin_cases f <;> rfl)

@[simp] theorem takeLevel_levelBytes (a : LevelAction) (p : List Byte) : takeLevel (levelBytes a ++ p) = some (a, p) := by
  rcases a with _ | f | f | f <;> first | rfl | (fin_cases f <;> rfl)

@[simp] theorem takeFunction_functionBytes (f : ServiceFunction) (p : List Byte) :
    takeFunction (functionBytes f ++ p) = some (f, p) := by
  rcases f with _ | _ | _ | _ | f | f <;> first | rfl | (fin_cases f <;> rfl)

/-- The rails of a mask are read back. -/
@[simp] theorem takeRails_flags (a b c : Bool) (p : List Byte) :
    takeRails (flagsByte [a, b, c] ++ p) = some (#v[a, b, c], p) := by
  cases a <;> cases b <;> cases c <;> rfl

end Sys2Proof.Machine
end

