-- ==== Sys2Proof/Laws/State.lean ====
section
/-! SUPPORT. What each named update of the state leaves alone, field by field, and what it writes. -/

namespace Sys2Proof.Machine

open Sys2Proof

/-! ### reach -/

@[simp] theorem reach_power (t : Nat) (s : State) : (reach t s).power = s.power := rfl
@[simp] theorem reach_hpc (t : Nat) (s : State) : (reach t s).hpc = s.hpc := rfl
@[simp] theorem reach_heat (t : Nat) (s : State) : (reach t s).heat = s.heat := rfl
@[simp] theorem reach_probe (t : Nat) (s : State) : (reach t s).probe = s.probe := rfl
@[simp] theorem reach_flags (t : Nat) (s : State) : (reach t s).flags = s.flags := rfl
@[simp] theorem reach_acts (t : Nat) (s : State) : (reach t s).acts = s.acts := rfl
@[simp] theorem reach_pad (t : Nat) (s : State) : (reach t s).pad = s.pad := rfl
@[simp] theorem reach_keymap (t : Nat) (s : State) : (reach t s).keymap = s.keymap := rfl
@[simp] theorem reach_relay (t : Nat) (s : State) : (reach t s).relay = s.relay := rfl
@[simp] theorem reach_panel (t : Nat) (s : State) : (reach t s).panel = s.panel := rfl
@[simp] theorem reach_store (t : Nat) (s : State) : (reach t s).store = s.store := rfl
@[simp] theorem reach_imageState (t : Nat) (s : State) : (reach t s).imageState = s.imageState := rfl
@[simp] theorem reach_outs (t : Nat) (s : State) : (reach t s).outs = s.outs := rfl
@[simp] theorem reach_errs (t : Nat) (s : State) : (reach t s).errs = s.errs := rfl
@[simp] theorem reach_counters (t : Nat) (s : State) : (reach t s).counters = s.counters := rfl
@[simp] theorem reach_choice (t : Nat) (s : State) : (reach t s).choice = s.choice := rfl
@[simp] theorem reach_pending (t : Nat) (s : State) : (reach t s).pending = s.pending := rfl

/-! ### countEvent -/

@[simp] theorem countEvent_now (e : CounterEvent) (s : State) : (countEvent e s).now = s.now := rfl
@[simp] theorem countEvent_power (e : CounterEvent) (s : State) : (countEvent e s).power = s.power := rfl
@[simp] theorem countEvent_hpc (e : CounterEvent) (s : State) : (countEvent e s).hpc = s.hpc := rfl
@[simp] theorem countEvent_heat (e : CounterEvent) (s : State) : (countEvent e s).heat = s.heat := rfl
@[simp] theorem countEvent_probe (e : CounterEvent) (s : State) : (countEvent e s).probe = s.probe := rfl
@[simp] theorem countEvent_flags (e : CounterEvent) (s : State) : (countEvent e s).flags = s.flags := rfl
@[simp] theorem countEvent_acts (e : CounterEvent) (s : State) : (countEvent e s).acts = s.acts := rfl
@[simp] theorem countEvent_pad (e : CounterEvent) (s : State) : (countEvent e s).pad = s.pad := rfl
@[simp] theorem countEvent_keymap (e : CounterEvent) (s : State) : (countEvent e s).keymap = s.keymap := rfl
@[simp] theorem countEvent_relay (e : CounterEvent) (s : State) : (countEvent e s).relay = s.relay := rfl
@[simp] theorem countEvent_panel (e : CounterEvent) (s : State) : (countEvent e s).panel = s.panel := rfl
@[simp] theorem countEvent_store (e : CounterEvent) (s : State) : (countEvent e s).store = s.store := rfl
@[simp] theorem countEvent_imageState (e : CounterEvent) (s : State) : (countEvent e s).imageState = s.imageState := rfl
@[simp] theorem countEvent_outs (e : CounterEvent) (s : State) : (countEvent e s).outs = s.outs := rfl
@[simp] theorem countEvent_errs (e : CounterEvent) (s : State) : (countEvent e s).errs = s.errs := rfl
@[simp] theorem countEvent_choice (e : CounterEvent) (s : State) : (countEvent e s).choice = s.choice := rfl
@[simp] theorem countEvent_pending (e : CounterEvent) (s : State) : (countEvent e s).pending = s.pending := rfl

/-! ### latchError -/

@[simp] theorem latchError_now (c : ErrorClass) (f : ErrorFields) (s : State) : (latchError c f s).now = s.now := rfl
@[simp] theorem latchError_power (c : ErrorClass) (f : ErrorFields) (s : State) : (latchError c f s).power = s.power := rfl
@[simp] theorem latchError_hpc (c : ErrorClass) (f : ErrorFields) (s : State) : (latchError c f s).hpc = s.hpc := rfl
@[simp] theorem latchError_heat (c : ErrorClass) (f : ErrorFields) (s : State) : (latchError c f s).heat = s.heat := rfl
@[simp] theorem latchError_probe (c : ErrorClass) (f : ErrorFields) (s : State) : (latchError c f s).probe = s.probe := rfl
@[simp] theorem latchError_flags (c : ErrorClass) (f : ErrorFields) (s : State) : (latchError c f s).flags = s.flags := rfl
@[simp] theorem latchError_acts (c : ErrorClass) (f : ErrorFields) (s : State) : (latchError c f s).acts = s.acts := rfl
@[simp] theorem latchError_pad (c : ErrorClass) (f : ErrorFields) (s : State) : (latchError c f s).pad = s.pad := rfl
@[simp] theorem latchError_keymap (c : ErrorClass) (f : ErrorFields) (s : State) : (latchError c f s).keymap = s.keymap := rfl
@[simp] theorem latchError_relay (c : ErrorClass) (f : ErrorFields) (s : State) : (latchError c f s).relay = s.relay := rfl
@[simp] theorem latchError_panel (c : ErrorClass) (f : ErrorFields) (s : State) : (latchError c f s).panel = s.panel := rfl
@[simp] theorem latchError_store (c : ErrorClass) (f : ErrorFields) (s : State) : (latchError c f s).store = s.store := rfl
@[simp] theorem latchError_imageState (c : ErrorClass) (f : ErrorFields) (s : State) : (latchError c f s).imageState = s.imageState := rfl
@[simp] theorem latchError_outs (c : ErrorClass) (f : ErrorFields) (s : State) : (latchError c f s).outs = s.outs := rfl
@[simp] theorem latchError_counters (c : ErrorClass) (f : ErrorFields) (s : State) : (latchError c f s).counters = s.counters := rfl
@[simp] theorem latchError_choice (c : ErrorClass) (f : ErrorFields) (s : State) : (latchError c f s).choice = s.choice := rfl
@[simp] theorem latchError_pending (c : ErrorClass) (f : ErrorFields) (s : State) : (latchError c f s).pending = s.pending := rfl

/-! ### startTransmit -/

/-- The transmitter's choice changes nothing but the transmitter. -/
theorem startTransmit_eq (s : State) :
    startTransmit s = { s with panel := { s.panel with tx := (startTransmit s).panel.tx } } := by
  unfold startTransmit
  split
  · split
    · rfl
    · split <;> rfl
  · rfl

@[simp] theorem startTransmit_now (s : State) : (startTransmit s).now = s.now := by rw [startTransmit_eq]
@[simp] theorem startTransmit_power (s : State) : (startTransmit s).power = s.power := by rw [startTransmit_eq]
@[simp] theorem startTransmit_hpc (s : State) : (startTransmit s).hpc = s.hpc := by rw [startTransmit_eq]
@[simp] theorem startTransmit_heat (s : State) : (startTransmit s).heat = s.heat := by rw [startTransmit_eq]
@[simp] theorem startTransmit_probe (s : State) : (startTransmit s).probe = s.probe := by rw [startTransmit_eq]
@[simp] theorem startTransmit_flags (s : State) : (startTransmit s).flags = s.flags := by rw [startTransmit_eq]
@[simp] theorem startTransmit_acts (s : State) : (startTransmit s).acts = s.acts := by rw [startTransmit_eq]
@[simp] theorem startTransmit_pad (s : State) : (startTransmit s).pad = s.pad := by rw [startTransmit_eq]
@[simp] theorem startTransmit_keymap (s : State) : (startTransmit s).keymap = s.keymap := by rw [startTransmit_eq]
@[simp] theorem startTransmit_relay (s : State) : (startTransmit s).relay = s.relay := by rw [startTransmit_eq]
@[simp] theorem startTransmit_store (s : State) : (startTransmit s).store = s.store := by rw [startTransmit_eq]
@[simp] theorem startTransmit_imageState (s : State) : (startTransmit s).imageState = s.imageState := by rw [startTransmit_eq]
@[simp] theorem startTransmit_outs (s : State) : (startTransmit s).outs = s.outs := by rw [startTransmit_eq]
@[simp] theorem startTransmit_errs (s : State) : (startTransmit s).errs = s.errs := by rw [startTransmit_eq]
@[simp] theorem startTransmit_counters (s : State) : (startTransmit s).counters = s.counters := by rw [startTransmit_eq]
@[simp] theorem startTransmit_choice (s : State) : (startTransmit s).choice = s.choice := by rw [startTransmit_eq]
@[simp] theorem startTransmit_pending (s : State) : (startTransmit s).pending = s.pending := by rw [startTransmit_eq]
@[simp] theorem startTransmit_replies (s : State) : (startTransmit s).panel.replies = s.panel.replies := by
  rw [startTransmit_eq]
@[simp] theorem startTransmit_notices (s : State) : (startTransmit s).panel.notices = s.panel.notices := by
  rw [startTransmit_eq]

/-- A transmitter that is sending keeps its frame. -/
theorem startTransmit_busy {s : State} (h : s.panel.tx ≠ .idle) : startTransmit s = s := by
  simp [startTransmit, h]

/-- Outside the delivering states nothing is begun. -/
theorem startTransmit_deaf {s : State} (h : s.hpc.host.delivers = false) : startTransmit s = s := by
  simp [startTransmit, h]

/-- With both queues empty nothing is begun. -/
theorem startTransmit_empty {s : State} (hr : s.panel.replies = []) (hn : s.panel.notices = []) : startTransmit s = s := by
  simp [startTransmit, hr, hn]

/-- An idle transmitter in a delivering state begins the oldest reply if there is one (R165). -/
theorem startTransmit_reply {s : State} (h : s.hpc.host.delivers = true) (hi : s.panel.tx = .idle)
    (hr : s.panel.replies ≠ []) : startTransmit s = { s with panel.tx := .reply } := by
  simp [startTransmit, h, hi, hr]

/-- An idle transmitter in a delivering state begins the oldest notice when no reply waits (R165). -/
theorem startTransmit_notice {s : State} (h : s.hpc.host.delivers = true) (hi : s.panel.tx = .idle)
    (hr : s.panel.replies = []) (hn : s.panel.notices ≠ []) : startTransmit s = { s with panel.tx := .notice } := by
  simp [startTransmit, h, hi, hr, hn]

/-- The transmitter has nothing more to begin once it has been asked. -/
@[simp] theorem startTransmit_idem (s : State) : startTransmit (startTransmit s) = startTransmit s := by
  by_cases h : s.hpc.host.delivers = true
  · by_cases hi : s.panel.tx = .idle
    · by_cases hr : s.panel.replies = []
      · by_cases hn : s.panel.notices = []
        · simp only [startTransmit_empty hr hn]
        · rw [startTransmit_notice h hi hr hn]; exact startTransmit_busy (by simp)
      · rw [startTransmit_reply h hi hr]; exact startTransmit_busy (by simp)
    · simp only [startTransmit_busy hi]
  · simp only [startTransmit_deaf (Bool.not_eq_true _ ▸ h)]

/-! ### placeReply -/

@[simp] theorem placeReply_now (r : Reply) (s : State) : (placeReply r s).now = s.now := by simp [placeReply]
@[simp] theorem placeReply_power (r : Reply) (s : State) : (placeReply r s).power = s.power := by simp [placeReply]
@[simp] theorem placeReply_hpc (r : Reply) (s : State) : (placeReply r s).hpc = s.hpc := by simp [placeReply]
@[simp] theorem placeReply_heat (r : Reply) (s : State) : (placeReply r s).heat = s.heat := by simp [placeReply]
@[simp] theorem placeReply_probe (r : Reply) (s : State) : (placeReply r s).probe = s.probe := by simp [placeReply]
@[simp] theorem placeReply_flags (r : Reply) (s : State) : (placeReply r s).flags = s.flags := by simp [placeReply]
@[simp] theorem placeReply_acts (r : Reply) (s : State) : (placeReply r s).acts = s.acts := by simp [placeReply]
@[simp] theorem placeReply_pad (r : Reply) (s : State) : (placeReply r s).pad = s.pad := by simp [placeReply]
@[simp] theorem placeReply_keymap (r : Reply) (s : State) : (placeReply r s).keymap = s.keymap := by simp [placeReply]
@[simp] theorem placeReply_relay (r : Reply) (s : State) : (placeReply r s).relay = s.relay := by simp [placeReply]
@[simp] theorem placeReply_store (r : Reply) (s : State) : (placeReply r s).store = s.store := by simp [placeReply]
@[simp] theorem placeReply_imageState (r : Reply) (s : State) : (placeReply r s).imageState = s.imageState := by simp [placeReply]
@[simp] theorem placeReply_outs (r : Reply) (s : State) : (placeReply r s).outs = s.outs := by simp [placeReply]
@[simp] theorem placeReply_errs (r : Reply) (s : State) : (placeReply r s).errs = s.errs := by simp [placeReply]
@[simp] theorem placeReply_counters (r : Reply) (s : State) : (placeReply r s).counters = s.counters := by simp [placeReply]
@[simp] theorem placeReply_choice (r : Reply) (s : State) : (placeReply r s).choice = s.choice := by simp [placeReply]
@[simp] theorem placeReply_pending (r : Reply) (s : State) : (placeReply r s).pending = s.pending := by simp [placeReply]

/-! ### flushQueues -/

@[simp] theorem flushQueues_now (s : State) : (flushQueues s).now = s.now := rfl
@[simp] theorem flushQueues_power (s : State) : (flushQueues s).power = s.power := rfl
@[simp] theorem flushQueues_hpc (s : State) : (flushQueues s).hpc = s.hpc := rfl
@[simp] theorem flushQueues_heat (s : State) : (flushQueues s).heat = s.heat := rfl
@[simp] theorem flushQueues_probe (s : State) : (flushQueues s).probe = s.probe := rfl
@[simp] theorem flushQueues_flags (s : State) : (flushQueues s).flags = s.flags := rfl
@[simp] theorem flushQueues_acts (s : State) : (flushQueues s).acts = s.acts := rfl
@[simp] theorem flushQueues_pad (s : State) : (flushQueues s).pad = s.pad := rfl
@[simp] theorem flushQueues_keymap (s : State) : (flushQueues s).keymap = s.keymap := rfl
@[simp] theorem flushQueues_relay (s : State) : (flushQueues s).relay = s.relay := rfl
@[simp] theorem flushQueues_store (s : State) : (flushQueues s).store = s.store := rfl
@[simp] theorem flushQueues_outs (s : State) : (flushQueues s).outs = s.outs := rfl
@[simp] theorem flushQueues_errs (s : State) : (flushQueues s).errs = s.errs := rfl
@[simp] theorem flushQueues_counters (s : State) : (flushQueues s).counters = s.counters := rfl
@[simp] theorem flushQueues_choice (s : State) : (flushQueues s).choice = s.choice := rfl
@[simp] theorem flushQueues_pending (s : State) : (flushQueues s).pending = s.pending := rfl

/-! ### setUserFlag -/

@[simp] theorem setUserFlag_now (f : Fin 4) (s : State) : (setUserFlag f s).now = s.now := rfl
@[simp] theorem setUserFlag_power (f : Fin 4) (s : State) : (setUserFlag f s).power = s.power := rfl
@[simp] theorem setUserFlag_hpc (f : Fin 4) (s : State) : (setUserFlag f s).hpc = s.hpc := rfl
@[simp] theorem setUserFlag_heat (f : Fin 4) (s : State) : (setUserFlag f s).heat = s.heat := rfl
@[simp] theorem setUserFlag_probe (f : Fin 4) (s : State) : (setUserFlag f s).probe = s.probe := rfl
@[simp] theorem setUserFlag_acts (f : Fin 4) (s : State) : (setUserFlag f s).acts = s.acts := rfl
@[simp] theorem setUserFlag_pad (f : Fin 4) (s : State) : (setUserFlag f s).pad = s.pad := rfl
@[simp] theorem setUserFlag_keymap (f : Fin 4) (s : State) : (setUserFlag f s).keymap = s.keymap := rfl
@[simp] theorem setUserFlag_relay (f : Fin 4) (s : State) : (setUserFlag f s).relay = s.relay := rfl
@[simp] theorem setUserFlag_panel (f : Fin 4) (s : State) : (setUserFlag f s).panel = s.panel := rfl
@[simp] theorem setUserFlag_store (f : Fin 4) (s : State) : (setUserFlag f s).store = s.store := rfl
@[simp] theorem setUserFlag_imageState (f : Fin 4) (s : State) : (setUserFlag f s).imageState = s.imageState := rfl
@[simp] theorem setUserFlag_outs (f : Fin 4) (s : State) : (setUserFlag f s).outs = s.outs := rfl
@[simp] theorem setUserFlag_errs (f : Fin 4) (s : State) : (setUserFlag f s).errs = s.errs := rfl
@[simp] theorem setUserFlag_counters (f : Fin 4) (s : State) : (setUserFlag f s).counters = s.counters := rfl
@[simp] theorem setUserFlag_choice (f : Fin 4) (s : State) : (setUserFlag f s).choice = s.choice := rfl
@[simp] theorem setUserFlag_pending (f : Fin 4) (s : State) : (setUserFlag f s).pending = s.pending := rfl

/-! ### clearUserFlag -/

@[simp] theorem clearUserFlag_now (f : Fin 4) (s : State) : (clearUserFlag f s).now = s.now := rfl
@[simp] theorem clearUserFlag_power (f : Fin 4) (s : State) : (clearUserFlag f s).power = s.power := rfl
@[simp] theorem clearUserFlag_hpc (f : Fin 4) (s : State) : (clearUserFlag f s).hpc = s.hpc := rfl
@[simp] theorem clearUserFlag_heat (f : Fin 4) (s : State) : (clearUserFlag f s).heat = s.heat := rfl
@[simp] theorem clearUserFlag_probe (f : Fin 4) (s : State) : (clearUserFlag f s).probe = s.probe := rfl
@[simp] theorem clearUserFlag_acts (f : Fin 4) (s : State) : (clearUserFlag f s).acts = s.acts := rfl
@[simp] theorem clearUserFlag_pad (f : Fin 4) (s : State) : (clearUserFlag f s).pad = s.pad := rfl
@[simp] theorem clearUserFlag_keymap (f : Fin 4) (s : State) : (clearUserFlag f s).keymap = s.keymap := rfl
@[simp] theorem clearUserFlag_relay (f : Fin 4) (s : State) : (clearUserFlag f s).relay = s.relay := rfl
@[simp] theorem clearUserFlag_panel (f : Fin 4) (s : State) : (clearUserFlag f s).panel = s.panel := rfl
@[simp] theorem clearUserFlag_store (f : Fin 4) (s : State) : (clearUserFlag f s).store = s.store := rfl
@[simp] theorem clearUserFlag_imageState (f : Fin 4) (s : State) : (clearUserFlag f s).imageState = s.imageState := rfl
@[simp] theorem clearUserFlag_outs (f : Fin 4) (s : State) : (clearUserFlag f s).outs = s.outs := rfl
@[simp] theorem clearUserFlag_errs (f : Fin 4) (s : State) : (clearUserFlag f s).errs = s.errs := rfl
@[simp] theorem clearUserFlag_counters (f : Fin 4) (s : State) : (clearUserFlag f s).counters = s.counters := rfl
@[simp] theorem clearUserFlag_choice (f : Fin 4) (s : State) : (clearUserFlag f s).choice = s.choice := rfl
@[simp] theorem clearUserFlag_pending (f : Fin 4) (s : State) : (clearUserFlag f s).pending = s.pending := rfl

/-! ### setRule -/

@[simp] theorem setRule_now (i : Slot) (r : RuleState) (s : State) : (setRule i r s).now = s.now := rfl
@[simp] theorem setRule_power (i : Slot) (r : RuleState) (s : State) : (setRule i r s).power = s.power := rfl
@[simp] theorem setRule_hpc (i : Slot) (r : RuleState) (s : State) : (setRule i r s).hpc = s.hpc := rfl
@[simp] theorem setRule_heat (i : Slot) (r : RuleState) (s : State) : (setRule i r s).heat = s.heat := rfl
@[simp] theorem setRule_probe (i : Slot) (r : RuleState) (s : State) : (setRule i r s).probe = s.probe := rfl
@[simp] theorem setRule_flags (i : Slot) (r : RuleState) (s : State) : (setRule i r s).flags = s.flags := rfl
@[simp] theorem setRule_pad (i : Slot) (r : RuleState) (s : State) : (setRule i r s).pad = s.pad := rfl
@[simp] theorem setRule_keymap (i : Slot) (r : RuleState) (s : State) : (setRule i r s).keymap = s.keymap := rfl
@[simp] theorem setRule_relay (i : Slot) (r : RuleState) (s : State) : (setRule i r s).relay = s.relay := rfl
@[simp] theorem setRule_panel (i : Slot) (r : RuleState) (s : State) : (setRule i r s).panel = s.panel := rfl
@[simp] theorem setRule_store (i : Slot) (r : RuleState) (s : State) : (setRule i r s).store = s.store := rfl
@[simp] theorem setRule_imageState (i : Slot) (r : RuleState) (s : State) : (setRule i r s).imageState = s.imageState := rfl
@[simp] theorem setRule_outs (i : Slot) (r : RuleState) (s : State) : (setRule i r s).outs = s.outs := rfl
@[simp] theorem setRule_errs (i : Slot) (r : RuleState) (s : State) : (setRule i r s).errs = s.errs := rfl
@[simp] theorem setRule_counters (i : Slot) (r : RuleState) (s : State) : (setRule i r s).counters = s.counters := rfl
@[simp] theorem setRule_choice (i : Slot) (r : RuleState) (s : State) : (setRule i r s).choice = s.choice := rfl
@[simp] theorem setRule_pending (i : Slot) (r : RuleState) (s : State) : (setRule i r s).pending = s.pending := rfl

/-! ### setChan -/

@[simp] theorem setChan_now (c : Channel) (x : ChannelState) (s : State) : (setChan c x s).now = s.now := rfl
@[simp] theorem setChan_power (c : Channel) (x : ChannelState) (s : State) : (setChan c x s).power = s.power := rfl
@[simp] theorem setChan_hpc (c : Channel) (x : ChannelState) (s : State) : (setChan c x s).hpc = s.hpc := rfl
@[simp] theorem setChan_heat (c : Channel) (x : ChannelState) (s : State) : (setChan c x s).heat = s.heat := rfl
@[simp] theorem setChan_flags (c : Channel) (x : ChannelState) (s : State) : (setChan c x s).flags = s.flags := rfl
@[simp] theorem setChan_acts (c : Channel) (x : ChannelState) (s : State) : (setChan c x s).acts = s.acts := rfl
@[simp] theorem setChan_pad (c : Channel) (x : ChannelState) (s : State) : (setChan c x s).pad = s.pad := rfl
@[simp] theorem setChan_keymap (c : Channel) (x : ChannelState) (s : State) : (setChan c x s).keymap = s.keymap := rfl
@[simp] theorem setChan_relay (c : Channel) (x : ChannelState) (s : State) : (setChan c x s).relay = s.relay := rfl
@[simp] theorem setChan_panel (c : Channel) (x : ChannelState) (s : State) : (setChan c x s).panel = s.panel := rfl
@[simp] theorem setChan_store (c : Channel) (x : ChannelState) (s : State) : (setChan c x s).store = s.store := rfl
@[simp] theorem setChan_imageState (c : Channel) (x : ChannelState) (s : State) : (setChan c x s).imageState = s.imageState := rfl
@[simp] theorem setChan_outs (c : Channel) (x : ChannelState) (s : State) : (setChan c x s).outs = s.outs := rfl
@[simp] theorem setChan_errs (c : Channel) (x : ChannelState) (s : State) : (setChan c x s).errs = s.errs := rfl
@[simp] theorem setChan_counters (c : Channel) (x : ChannelState) (s : State) : (setChan c x s).counters = s.counters := rfl
@[simp] theorem setChan_choice (c : Channel) (x : ChannelState) (s : State) : (setChan c x s).choice = s.choice := rfl
@[simp] theorem setChan_pending (c : Channel) (x : ChannelState) (s : State) : (setChan c x s).pending = s.pending := rfl

/-! ### setKey -/

@[simp] theorem setKey_now (p : Position) (x : KeyPosition) (s : State) : (setKey p x s).now = s.now := rfl
@[simp] theorem setKey_power (p : Position) (x : KeyPosition) (s : State) : (setKey p x s).power = s.power := rfl
@[simp] theorem setKey_hpc (p : Position) (x : KeyPosition) (s : State) : (setKey p x s).hpc = s.hpc := rfl
@[simp] theorem setKey_heat (p : Position) (x : KeyPosition) (s : State) : (setKey p x s).heat = s.heat := rfl
@[simp] theorem setKey_probe (p : Position) (x : KeyPosition) (s : State) : (setKey p x s).probe = s.probe := rfl
@[simp] theorem setKey_flags (p : Position) (x : KeyPosition) (s : State) : (setKey p x s).flags = s.flags := rfl
@[simp] theorem setKey_acts (p : Position) (x : KeyPosition) (s : State) : (setKey p x s).acts = s.acts := rfl
@[simp] theorem setKey_pad (p : Position) (x : KeyPosition) (s : State) : (setKey p x s).pad = s.pad := rfl
@[simp] theorem setKey_relay (p : Position) (x : KeyPosition) (s : State) : (setKey p x s).relay = s.relay := rfl
@[simp] theorem setKey_panel (p : Position) (x : KeyPosition) (s : State) : (setKey p x s).panel = s.panel := rfl
@[simp] theorem setKey_store (p : Position) (x : KeyPosition) (s : State) : (setKey p x s).store = s.store := rfl
@[simp] theorem setKey_imageState (p : Position) (x : KeyPosition) (s : State) : (setKey p x s).imageState = s.imageState := rfl
@[simp] theorem setKey_outs (p : Position) (x : KeyPosition) (s : State) : (setKey p x s).outs = s.outs := rfl
@[simp] theorem setKey_errs (p : Position) (x : KeyPosition) (s : State) : (setKey p x s).errs = s.errs := rfl
@[simp] theorem setKey_counters (p : Position) (x : KeyPosition) (s : State) : (setKey p x s).counters = s.counters := rfl
@[simp] theorem setKey_choice (p : Position) (x : KeyPosition) (s : State) : (setKey p x s).choice = s.choice := rfl
@[simp] theorem setKey_pending (p : Position) (x : KeyPosition) (s : State) : (setKey p x s).pending = s.pending := rfl

/-! ### setStack -/

@[simp] theorem setStack_now (l : List StackEntry) (s : State) : (setStack l s).now = s.now := rfl
@[simp] theorem setStack_power (l : List StackEntry) (s : State) : (setStack l s).power = s.power := rfl
@[simp] theorem setStack_hpc (l : List StackEntry) (s : State) : (setStack l s).hpc = s.hpc := rfl
@[simp] theorem setStack_heat (l : List StackEntry) (s : State) : (setStack l s).heat = s.heat := rfl
@[simp] theorem setStack_probe (l : List StackEntry) (s : State) : (setStack l s).probe = s.probe := rfl
@[simp] theorem setStack_flags (l : List StackEntry) (s : State) : (setStack l s).flags = s.flags := rfl
@[simp] theorem setStack_acts (l : List StackEntry) (s : State) : (setStack l s).acts = s.acts := rfl
@[simp] theorem setStack_pad (l : List StackEntry) (s : State) : (setStack l s).pad = s.pad := rfl
@[simp] theorem setStack_relay (l : List StackEntry) (s : State) : (setStack l s).relay = s.relay := rfl
@[simp] theorem setStack_panel (l : List StackEntry) (s : State) : (setStack l s).panel = s.panel := rfl
@[simp] theorem setStack_store (l : List StackEntry) (s : State) : (setStack l s).store = s.store := rfl
@[simp] theorem setStack_imageState (l : List StackEntry) (s : State) : (setStack l s).imageState = s.imageState := rfl
@[simp] theorem setStack_outs (l : List StackEntry) (s : State) : (setStack l s).outs = s.outs := rfl
@[simp] theorem setStack_errs (l : List StackEntry) (s : State) : (setStack l s).errs = s.errs := rfl
@[simp] theorem setStack_counters (l : List StackEntry) (s : State) : (setStack l s).counters = s.counters := rfl
@[simp] theorem setStack_choice (l : List StackEntry) (s : State) : (setStack l s).choice = s.choice := rfl
@[simp] theorem setStack_pending (l : List StackEntry) (s : State) : (setStack l s).pending = s.pending := rfl

/-! ### setPad -/

@[simp] theorem setPad_now (p : Position) (x : PadPosition) (s : State) : (setPad p x s).now = s.now := rfl
@[simp] theorem setPad_power (p : Position) (x : PadPosition) (s : State) : (setPad p x s).power = s.power := rfl
@[simp] theorem setPad_hpc (p : Position) (x : PadPosition) (s : State) : (setPad p x s).hpc = s.hpc := rfl
@[simp] theorem setPad_heat (p : Position) (x : PadPosition) (s : State) : (setPad p x s).heat = s.heat := rfl
@[simp] theorem setPad_probe (p : Position) (x : PadPosition) (s : State) : (setPad p x s).probe = s.probe := rfl
@[simp] theorem setPad_flags (p : Position) (x : PadPosition) (s : State) : (setPad p x s).flags = s.flags := rfl
@[simp] theorem setPad_acts (p : Position) (x : PadPosition) (s : State) : (setPad p x s).acts = s.acts := rfl
@[simp] theorem setPad_keymap (p : Position) (x : PadPosition) (s : State) : (setPad p x s).keymap = s.keymap := rfl
@[simp] theorem setPad_relay (p : Position) (x : PadPosition) (s : State) : (setPad p x s).relay = s.relay := rfl
@[simp] theorem setPad_panel (p : Position) (x : PadPosition) (s : State) : (setPad p x s).panel = s.panel := rfl
@[simp] theorem setPad_store (p : Position) (x : PadPosition) (s : State) : (setPad p x s).store = s.store := rfl
@[simp] theorem setPad_imageState (p : Position) (x : PadPosition) (s : State) : (setPad p x s).imageState = s.imageState := rfl
@[simp] theorem setPad_outs (p : Position) (x : PadPosition) (s : State) : (setPad p x s).outs = s.outs := rfl
@[simp] theorem setPad_errs (p : Position) (x : PadPosition) (s : State) : (setPad p x s).errs = s.errs := rfl
@[simp] theorem setPad_counters (p : Position) (x : PadPosition) (s : State) : (setPad p x s).counters = s.counters := rfl
@[simp] theorem setPad_choice (p : Position) (x : PadPosition) (s : State) : (setPad p x s).choice = s.choice := rfl
@[simp] theorem setPad_pending (p : Position) (x : PadPosition) (s : State) : (setPad p x s).pending = s.pending := rfl

/-! ### abandonRelay -/

@[simp] theorem abandonRelay_now (s : State) : (abandonRelay s).now = s.now := rfl
@[simp] theorem abandonRelay_power (s : State) : (abandonRelay s).power = s.power := rfl
@[simp] theorem abandonRelay_hpc (s : State) : (abandonRelay s).hpc = s.hpc := rfl
@[simp] theorem abandonRelay_heat (s : State) : (abandonRelay s).heat = s.heat := rfl
@[simp] theorem abandonRelay_probe (s : State) : (abandonRelay s).probe = s.probe := rfl
@[simp] theorem abandonRelay_flags (s : State) : (abandonRelay s).flags = s.flags := rfl
@[simp] theorem abandonRelay_acts (s : State) : (abandonRelay s).acts = s.acts := rfl
@[simp] theorem abandonRelay_pad (s : State) : (abandonRelay s).pad = s.pad := rfl
@[simp] theorem abandonRelay_keymap (s : State) : (abandonRelay s).keymap = s.keymap := rfl
@[simp] theorem abandonRelay_panel (s : State) : (abandonRelay s).panel = s.panel := rfl
@[simp] theorem abandonRelay_store (s : State) : (abandonRelay s).store = s.store := rfl
@[simp] theorem abandonRelay_imageState (s : State) : (abandonRelay s).imageState = s.imageState := rfl
@[simp] theorem abandonRelay_outs (s : State) : (abandonRelay s).outs = s.outs := rfl
@[simp] theorem abandonRelay_errs (s : State) : (abandonRelay s).errs = s.errs := rfl
@[simp] theorem abandonRelay_counters (s : State) : (abandonRelay s).counters = s.counters := rfl
@[simp] theorem abandonRelay_choice (s : State) : (abandonRelay s).choice = s.choice := rfl
@[simp] theorem abandonRelay_pending (s : State) : (abandonRelay s).pending = s.pending := rfl

/-! ### clearReported -/

@[simp] theorem clearReported_now (s : State) : (clearReported s).now = s.now := rfl
@[simp] theorem clearReported_power (s : State) : (clearReported s).power = s.power := rfl
@[simp] theorem clearReported_hpc (s : State) : (clearReported s).hpc = s.hpc := rfl
@[simp] theorem clearReported_heat (s : State) : (clearReported s).heat = s.heat := rfl
@[simp] theorem clearReported_probe (s : State) : (clearReported s).probe = s.probe := rfl
@[simp] theorem clearReported_flags (s : State) : (clearReported s).flags = s.flags := rfl
@[simp] theorem clearReported_acts (s : State) : (clearReported s).acts = s.acts := rfl
@[simp] theorem clearReported_pad (s : State) : (clearReported s).pad = s.pad := rfl
@[simp] theorem clearReported_relay (s : State) : (clearReported s).relay = s.relay := rfl
@[simp] theorem clearReported_panel (s : State) : (clearReported s).panel = s.panel := rfl
@[simp] theorem clearReported_store (s : State) : (clearReported s).store = s.store := rfl
@[simp] theorem clearReported_imageState (s : State) : (clearReported s).imageState = s.imageState := rfl
@[simp] theorem clearReported_outs (s : State) : (clearReported s).outs = s.outs := rfl
@[simp] theorem clearReported_errs (s : State) : (clearReported s).errs = s.errs := rfl
@[simp] theorem clearReported_counters (s : State) : (clearReported s).counters = s.counters := rfl
@[simp] theorem clearReported_choice (s : State) : (clearReported s).choice = s.choice := rfl
@[simp] theorem clearReported_pending (s : State) : (clearReported s).pending = s.pending := rfl

/-! ### idleLink -/

@[simp] theorem idleLink_now (s : State) : (idleLink s).now = s.now := rfl
@[simp] theorem idleLink_power (s : State) : (idleLink s).power = s.power := rfl
@[simp] theorem idleLink_hpc (s : State) : (idleLink s).hpc = s.hpc := rfl
@[simp] theorem idleLink_heat (s : State) : (idleLink s).heat = s.heat := rfl
@[simp] theorem idleLink_probe (s : State) : (idleLink s).probe = s.probe := rfl
@[simp] theorem idleLink_flags (s : State) : (idleLink s).flags = s.flags := rfl
@[simp] theorem idleLink_acts (s : State) : (idleLink s).acts = s.acts := rfl
@[simp] theorem idleLink_pad (s : State) : (idleLink s).pad = s.pad := rfl
@[simp] theorem idleLink_keymap (s : State) : (idleLink s).keymap = s.keymap := rfl
@[simp] theorem idleLink_panel (s : State) : (idleLink s).panel = s.panel := rfl
@[simp] theorem idleLink_store (s : State) : (idleLink s).store = s.store := rfl
@[simp] theorem idleLink_imageState (s : State) : (idleLink s).imageState = s.imageState := rfl
@[simp] theorem idleLink_outs (s : State) : (idleLink s).outs = s.outs := rfl
@[simp] theorem idleLink_errs (s : State) : (idleLink s).errs = s.errs := rfl
@[simp] theorem idleLink_counters (s : State) : (idleLink s).counters = s.counters := rfl
@[simp] theorem idleLink_choice (s : State) : (idleLink s).choice = s.choice := rfl
@[simp] theorem idleLink_pending (s : State) : (idleLink s).pending = s.pending := rfl

/-! ### disownPoll -/

@[simp] theorem disownPoll_now (c : Channel) (s : State) : (disownPoll c s).now = s.now := rfl
@[simp] theorem disownPoll_power (c : Channel) (s : State) : (disownPoll c s).power = s.power := rfl
@[simp] theorem disownPoll_hpc (c : Channel) (s : State) : (disownPoll c s).hpc = s.hpc := rfl
@[simp] theorem disownPoll_heat (c : Channel) (s : State) : (disownPoll c s).heat = s.heat := rfl
@[simp] theorem disownPoll_probe (c : Channel) (s : State) : (disownPoll c s).probe = s.probe := rfl
@[simp] theorem disownPoll_flags (c : Channel) (s : State) : (disownPoll c s).flags = s.flags := rfl
@[simp] theorem disownPoll_acts (c : Channel) (s : State) : (disownPoll c s).acts = s.acts := rfl
@[simp] theorem disownPoll_pad (c : Channel) (s : State) : (disownPoll c s).pad = s.pad := rfl
@[simp] theorem disownPoll_keymap (c : Channel) (s : State) : (disownPoll c s).keymap = s.keymap := rfl
@[simp] theorem disownPoll_panel (c : Channel) (s : State) : (disownPoll c s).panel = s.panel := rfl
@[simp] theorem disownPoll_store (c : Channel) (s : State) : (disownPoll c s).store = s.store := rfl
@[simp] theorem disownPoll_imageState (c : Channel) (s : State) : (disownPoll c s).imageState = s.imageState := rfl
@[simp] theorem disownPoll_outs (c : Channel) (s : State) : (disownPoll c s).outs = s.outs := rfl
@[simp] theorem disownPoll_errs (c : Channel) (s : State) : (disownPoll c s).errs = s.errs := rfl
@[simp] theorem disownPoll_counters (c : Channel) (s : State) : (disownPoll c s).counters = s.counters := rfl
@[simp] theorem disownPoll_choice (c : Channel) (s : State) : (disownPoll c s).choice = s.choice := rfl
@[simp] theorem disownPoll_pending (c : Channel) (s : State) : (disownPoll c s).pending = s.pending := rfl

/-! ### beginTransaction -/

@[simp] theorem beginTransaction_now (u : LinkUse) (m : Nat) (op : RelayOp) (r n : Nat) (d : List Byte) (s : State) : (beginTransaction u m op r n d s).now = s.now := rfl
@[simp] theorem beginTransaction_power (u : LinkUse) (m : Nat) (op : RelayOp) (r n : Nat) (d : List Byte) (s : State) : (beginTransaction u m op r n d s).power = s.power := rfl
@[simp] theorem beginTransaction_hpc (u : LinkUse) (m : Nat) (op : RelayOp) (r n : Nat) (d : List Byte) (s : State) : (beginTransaction u m op r n d s).hpc = s.hpc := rfl
@[simp] theorem beginTransaction_heat (u : LinkUse) (m : Nat) (op : RelayOp) (r n : Nat) (d : List Byte) (s : State) : (beginTransaction u m op r n d s).heat = s.heat := rfl
@[simp] theorem beginTransaction_probe (u : LinkUse) (m : Nat) (op : RelayOp) (r n : Nat) (d : List Byte) (s : State) : (beginTransaction u m op r n d s).probe = s.probe := rfl
@[simp] theorem beginTransaction_flags (u : LinkUse) (m : Nat) (op : RelayOp) (r n : Nat) (d : List Byte) (s : State) : (beginTransaction u m op r n d s).flags = s.flags := rfl
@[simp] theorem beginTransaction_acts (u : LinkUse) (m : Nat) (op : RelayOp) (r n : Nat) (d : List Byte) (s : State) : (beginTransaction u m op r n d s).acts = s.acts := rfl
@[simp] theorem beginTransaction_pad (u : LinkUse) (m : Nat) (op : RelayOp) (r n : Nat) (d : List Byte) (s : State) : (beginTransaction u m op r n d s).pad = s.pad := rfl
@[simp] theorem beginTransaction_keymap (u : LinkUse) (m : Nat) (op : RelayOp) (r n : Nat) (d : List Byte) (s : State) : (beginTransaction u m op r n d s).keymap = s.keymap := rfl
@[simp] theorem beginTransaction_panel (u : LinkUse) (m : Nat) (op : RelayOp) (r n : Nat) (d : List Byte) (s : State) : (beginTransaction u m op r n d s).panel = s.panel := rfl
@[simp] theorem beginTransaction_store (u : LinkUse) (m : Nat) (op : RelayOp) (r n : Nat) (d : List Byte) (s : State) : (beginTransaction u m op r n d s).store = s.store := rfl
@[simp] theorem beginTransaction_imageState (u : LinkUse) (m : Nat) (op : RelayOp) (r n : Nat) (d : List Byte) (s : State) : (beginTransaction u m op r n d s).imageState = s.imageState := rfl
@[simp] theorem beginTransaction_outs (u : LinkUse) (m : Nat) (op : RelayOp) (r n : Nat) (d : List Byte) (s : State) : (beginTransaction u m op r n d s).outs = s.outs := rfl
@[simp] theorem beginTransaction_errs (u : LinkUse) (m : Nat) (op : RelayOp) (r n : Nat) (d : List Byte) (s : State) : (beginTransaction u m op r n d s).errs = s.errs := rfl
@[simp] theorem beginTransaction_counters (u : LinkUse) (m : Nat) (op : RelayOp) (r n : Nat) (d : List Byte) (s : State) : (beginTransaction u m op r n d s).counters = s.counters := rfl
@[simp] theorem beginTransaction_choice (u : LinkUse) (m : Nat) (op : RelayOp) (r n : Nat) (d : List Byte) (s : State) : (beginTransaction u m op r n d s).choice = s.choice := rfl
@[simp] theorem beginTransaction_pending (u : LinkUse) (m : Nat) (op : RelayOp) (r n : Nat) (d : List Byte) (s : State) : (beginTransaction u m op r n d s).pending = s.pending := rfl

/-! ### dispatchChannel -/

@[simp] theorem dispatchChannel_now (c : Channel) (s : State) : (dispatchChannel c s).now = s.now := rfl
@[simp] theorem dispatchChannel_power (c : Channel) (s : State) : (dispatchChannel c s).power = s.power := rfl
@[simp] theorem dispatchChannel_hpc (c : Channel) (s : State) : (dispatchChannel c s).hpc = s.hpc := rfl
@[simp] theorem dispatchChannel_heat (c : Channel) (s : State) : (dispatchChannel c s).heat = s.heat := rfl
@[simp] theorem dispatchChannel_flags (c : Channel) (s : State) : (dispatchChannel c s).flags = s.flags := rfl
@[simp] theorem dispatchChannel_acts (c : Channel) (s : State) : (dispatchChannel c s).acts = s.acts := rfl
@[simp] theorem dispatchChannel_pad (c : Channel) (s : State) : (dispatchChannel c s).pad = s.pad := rfl
@[simp] theorem dispatchChannel_keymap (c : Channel) (s : State) : (dispatchChannel c s).keymap = s.keymap := rfl
@[simp] theorem dispatchChannel_relay (c : Channel) (s : State) : (dispatchChannel c s).relay = s.relay := rfl
@[simp] theorem dispatchChannel_panel (c : Channel) (s : State) : (dispatchChannel c s).panel = s.panel := rfl
@[simp] theorem dispatchChannel_store (c : Channel) (s : State) : (dispatchChannel c s).store = s.store := rfl
@[simp] theorem dispatchChannel_imageState (c : Channel) (s : State) : (dispatchChannel c s).imageState = s.imageState := rfl
@[simp] theorem dispatchChannel_outs (c : Channel) (s : State) : (dispatchChannel c s).outs = s.outs := rfl
@[simp] theorem dispatchChannel_errs (c : Channel) (s : State) : (dispatchChannel c s).errs = s.errs := rfl
@[simp] theorem dispatchChannel_counters (c : Channel) (s : State) : (dispatchChannel c s).counters = s.counters := rfl
@[simp] theorem dispatchChannel_choice (c : Channel) (s : State) : (dispatchChannel c s).choice = s.choice := rfl
@[simp] theorem dispatchChannel_pending (c : Channel) (s : State) : (dispatchChannel c s).pending = s.pending := rfl

/-! ### recomputeDebounce -/

@[simp] theorem recomputeDebounce_now (s : State) : (recomputeDebounce s).now = s.now := rfl
@[simp] theorem recomputeDebounce_power (s : State) : (recomputeDebounce s).power = s.power := rfl
@[simp] theorem recomputeDebounce_hpc (s : State) : (recomputeDebounce s).hpc = s.hpc := rfl
@[simp] theorem recomputeDebounce_heat (s : State) : (recomputeDebounce s).heat = s.heat := rfl
@[simp] theorem recomputeDebounce_probe (s : State) : (recomputeDebounce s).probe = s.probe := rfl
@[simp] theorem recomputeDebounce_flags (s : State) : (recomputeDebounce s).flags = s.flags := rfl
@[simp] theorem recomputeDebounce_acts (s : State) : (recomputeDebounce s).acts = s.acts := rfl
@[simp] theorem recomputeDebounce_keymap (s : State) : (recomputeDebounce s).keymap = s.keymap := rfl
@[simp] theorem recomputeDebounce_relay (s : State) : (recomputeDebounce s).relay = s.relay := rfl
@[simp] theorem recomputeDebounce_panel (s : State) : (recomputeDebounce s).panel = s.panel := rfl
@[simp] theorem recomputeDebounce_store (s : State) : (recomputeDebounce s).store = s.store := rfl
@[simp] theorem recomputeDebounce_imageState (s : State) : (recomputeDebounce s).imageState = s.imageState := rfl
@[simp] theorem recomputeDebounce_outs (s : State) : (recomputeDebounce s).outs = s.outs := rfl
@[simp] theorem recomputeDebounce_errs (s : State) : (recomputeDebounce s).errs = s.errs := rfl
@[simp] theorem recomputeDebounce_counters (s : State) : (recomputeDebounce s).counters = s.counters := rfl
@[simp] theorem recomputeDebounce_choice (s : State) : (recomputeDebounce s).choice = s.choice := rfl
@[simp] theorem recomputeDebounce_pending (s : State) : (recomputeDebounce s).pending = s.pending := rfl

/-! ### immediateRecompute -/

@[simp] theorem immediateRecompute_now (s : State) : (immediateRecompute s).now = s.now := rfl
@[simp] theorem immediateRecompute_power (s : State) : (immediateRecompute s).power = s.power := rfl
@[simp] theorem immediateRecompute_hpc (s : State) : (immediateRecompute s).hpc = s.hpc := rfl
@[simp] theorem immediateRecompute_probe (s : State) : (immediateRecompute s).probe = s.probe := rfl
@[simp] theorem immediateRecompute_flags (s : State) : (immediateRecompute s).flags = s.flags := rfl
@[simp] theorem immediateRecompute_acts (s : State) : (immediateRecompute s).acts = s.acts := rfl
@[simp] theorem immediateRecompute_pad (s : State) : (immediateRecompute s).pad = s.pad := rfl
@[simp] theorem immediateRecompute_keymap (s : State) : (immediateRecompute s).keymap = s.keymap := rfl
@[simp] theorem immediateRecompute_relay (s : State) : (immediateRecompute s).relay = s.relay := rfl
@[simp] theorem immediateRecompute_panel (s : State) : (immediateRecompute s).panel = s.panel := rfl
@[simp] theorem immediateRecompute_store (s : State) : (immediateRecompute s).store = s.store := rfl
@[simp] theorem immediateRecompute_imageState (s : State) : (immediateRecompute s).imageState = s.imageState := rfl
@[simp] theorem immediateRecompute_outs (s : State) : (immediateRecompute s).outs = s.outs := rfl
@[simp] theorem immediateRecompute_errs (s : State) : (immediateRecompute s).errs = s.errs := rfl
@[simp] theorem immediateRecompute_counters (s : State) : (immediateRecompute s).counters = s.counters := rfl
@[simp] theorem immediateRecompute_choice (s : State) : (immediateRecompute s).choice = s.choice := rfl
@[simp] theorem immediateRecompute_pending (s : State) : (immediateRecompute s).pending = s.pending := rfl

/-! ### driveOutput -/

@[simp] theorem driveOutput_now (z : Zone) (s : State) : (driveOutput z s).now = s.now := rfl
@[simp] theorem driveOutput_power (z : Zone) (s : State) : (driveOutput z s).power = s.power := rfl
@[simp] theorem driveOutput_hpc (z : Zone) (s : State) : (driveOutput z s).hpc = s.hpc := rfl
@[simp] theorem driveOutput_probe (z : Zone) (s : State) : (driveOutput z s).probe = s.probe := rfl
@[simp] theorem driveOutput_flags (z : Zone) (s : State) : (driveOutput z s).flags = s.flags := rfl
@[simp] theorem driveOutput_acts (z : Zone) (s : State) : (driveOutput z s).acts = s.acts := rfl
@[simp] theorem driveOutput_pad (z : Zone) (s : State) : (driveOutput z s).pad = s.pad := rfl
@[simp] theorem driveOutput_keymap (z : Zone) (s : State) : (driveOutput z s).keymap = s.keymap := rfl
@[simp] theorem driveOutput_relay (z : Zone) (s : State) : (driveOutput z s).relay = s.relay := rfl
@[simp] theorem driveOutput_panel (z : Zone) (s : State) : (driveOutput z s).panel = s.panel := rfl
@[simp] theorem driveOutput_store (z : Zone) (s : State) : (driveOutput z s).store = s.store := rfl
@[simp] theorem driveOutput_imageState (z : Zone) (s : State) : (driveOutput z s).imageState = s.imageState := rfl
@[simp] theorem driveOutput_outs (z : Zone) (s : State) : (driveOutput z s).outs = s.outs := rfl
@[simp] theorem driveOutput_errs (z : Zone) (s : State) : (driveOutput z s).errs = s.errs := rfl
@[simp] theorem driveOutput_counters (z : Zone) (s : State) : (driveOutput z s).counters = s.counters := rfl
@[simp] theorem driveOutput_choice (z : Zone) (s : State) : (driveOutput z s).choice = s.choice := rfl
@[simp] theorem driveOutput_pending (z : Zone) (s : State) : (driveOutput z s).pending = s.pending := rfl

/-! ### railUp -/

@[simp] theorem railUp_now (k : Rail) (s : State) : (railUp k s).now = s.now := rfl
@[simp] theorem railUp_power (k : Rail) (s : State) : (railUp k s).power = s.power := rfl
@[simp] theorem railUp_heat (k : Rail) (s : State) : (railUp k s).heat = s.heat := rfl
@[simp] theorem railUp_probe (k : Rail) (s : State) : (railUp k s).probe = s.probe := rfl
@[simp] theorem railUp_flags (k : Rail) (s : State) : (railUp k s).flags = s.flags := rfl
@[simp] theorem railUp_acts (k : Rail) (s : State) : (railUp k s).acts = s.acts := rfl
@[simp] theorem railUp_pad (k : Rail) (s : State) : (railUp k s).pad = s.pad := rfl
@[simp] theorem railUp_keymap (k : Rail) (s : State) : (railUp k s).keymap = s.keymap := rfl
@[simp] theorem railUp_relay (k : Rail) (s : State) : (railUp k s).relay = s.relay := rfl
@[simp] theorem railUp_panel (k : Rail) (s : State) : (railUp k s).panel = s.panel := rfl
@[simp] theorem railUp_store (k : Rail) (s : State) : (railUp k s).store = s.store := rfl
@[simp] theorem railUp_imageState (k : Rail) (s : State) : (railUp k s).imageState = s.imageState := rfl
@[simp] theorem railUp_outs (k : Rail) (s : State) : (railUp k s).outs = s.outs := rfl
@[simp] theorem railUp_errs (k : Rail) (s : State) : (railUp k s).errs = s.errs := rfl
@[simp] theorem railUp_counters (k : Rail) (s : State) : (railUp k s).counters = s.counters := rfl
@[simp] theorem railUp_choice (k : Rail) (s : State) : (railUp k s).choice = s.choice := rfl
@[simp] theorem railUp_pending (k : Rail) (s : State) : (railUp k s).pending = s.pending := rfl

/-! ### railDrop -/

@[simp] theorem railDrop_now (s : State) : (railDrop s).now = s.now := rfl
@[simp] theorem railDrop_power (s : State) : (railDrop s).power = s.power := rfl
@[simp] theorem railDrop_heat (s : State) : (railDrop s).heat = s.heat := rfl
@[simp] theorem railDrop_probe (s : State) : (railDrop s).probe = s.probe := rfl
@[simp] theorem railDrop_flags (s : State) : (railDrop s).flags = s.flags := rfl
@[simp] theorem railDrop_acts (s : State) : (railDrop s).acts = s.acts := rfl
@[simp] theorem railDrop_pad (s : State) : (railDrop s).pad = s.pad := rfl
@[simp] theorem railDrop_keymap (s : State) : (railDrop s).keymap = s.keymap := rfl
@[simp] theorem railDrop_relay (s : State) : (railDrop s).relay = s.relay := rfl
@[simp] theorem railDrop_panel (s : State) : (railDrop s).panel = s.panel := rfl
@[simp] theorem railDrop_store (s : State) : (railDrop s).store = s.store := rfl
@[simp] theorem railDrop_imageState (s : State) : (railDrop s).imageState = s.imageState := rfl
@[simp] theorem railDrop_outs (s : State) : (railDrop s).outs = s.outs := rfl
@[simp] theorem railDrop_errs (s : State) : (railDrop s).errs = s.errs := rfl
@[simp] theorem railDrop_counters (s : State) : (railDrop s).counters = s.counters := rfl
@[simp] theorem railDrop_choice (s : State) : (railDrop s).choice = s.choice := rfl
@[simp] theorem railDrop_pending (s : State) : (railDrop s).pending = s.pending := rfl

/-! ### beginRailOff -/

@[simp] theorem beginRailOff_now (s : State) : (beginRailOff s).now = s.now := rfl
@[simp] theorem beginRailOff_power (s : State) : (beginRailOff s).power = s.power := rfl
@[simp] theorem beginRailOff_heat (s : State) : (beginRailOff s).heat = s.heat := rfl
@[simp] theorem beginRailOff_probe (s : State) : (beginRailOff s).probe = s.probe := rfl
@[simp] theorem beginRailOff_flags (s : State) : (beginRailOff s).flags = s.flags := rfl
@[simp] theorem beginRailOff_acts (s : State) : (beginRailOff s).acts = s.acts := rfl
@[simp] theorem beginRailOff_pad (s : State) : (beginRailOff s).pad = s.pad := rfl
@[simp] theorem beginRailOff_keymap (s : State) : (beginRailOff s).keymap = s.keymap := rfl
@[simp] theorem beginRailOff_relay (s : State) : (beginRailOff s).relay = s.relay := rfl
@[simp] theorem beginRailOff_panel (s : State) : (beginRailOff s).panel = s.panel := rfl
@[simp] theorem beginRailOff_store (s : State) : (beginRailOff s).store = s.store := rfl
@[simp] theorem beginRailOff_imageState (s : State) : (beginRailOff s).imageState = s.imageState := rfl
@[simp] theorem beginRailOff_outs (s : State) : (beginRailOff s).outs = s.outs := rfl
@[simp] theorem beginRailOff_errs (s : State) : (beginRailOff s).errs = s.errs := rfl
@[simp] theorem beginRailOff_counters (s : State) : (beginRailOff s).counters = s.counters := rfl
@[simp] theorem beginRailOff_choice (s : State) : (beginRailOff s).choice = s.choice := rfl
@[simp] theorem beginRailOff_pending (s : State) : (beginRailOff s).pending = s.pending := rfl

/-! ### discardWatchdog -/

@[simp] theorem discardWatchdog_now (s : State) : (discardWatchdog s).now = s.now := rfl
@[simp] theorem discardWatchdog_power (s : State) : (discardWatchdog s).power = s.power := rfl
@[simp] theorem discardWatchdog_heat (s : State) : (discardWatchdog s).heat = s.heat := rfl
@[simp] theorem discardWatchdog_probe (s : State) : (discardWatchdog s).probe = s.probe := rfl
@[simp] theorem discardWatchdog_flags (s : State) : (discardWatchdog s).flags = s.flags := rfl
@[simp] theorem discardWatchdog_acts (s : State) : (discardWatchdog s).acts = s.acts := rfl
@[simp] theorem discardWatchdog_pad (s : State) : (discardWatchdog s).pad = s.pad := rfl
@[simp] theorem discardWatchdog_keymap (s : State) : (discardWatchdog s).keymap = s.keymap := rfl
@[simp] theorem discardWatchdog_relay (s : State) : (discardWatchdog s).relay = s.relay := rfl
@[simp] theorem discardWatchdog_panel (s : State) : (discardWatchdog s).panel = s.panel := rfl
@[simp] theorem discardWatchdog_store (s : State) : (discardWatchdog s).store = s.store := rfl
@[simp] theorem discardWatchdog_imageState (s : State) : (discardWatchdog s).imageState = s.imageState := rfl
@[simp] theorem discardWatchdog_outs (s : State) : (discardWatchdog s).outs = s.outs := rfl
@[simp] theorem discardWatchdog_errs (s : State) : (discardWatchdog s).errs = s.errs := rfl
@[simp] theorem discardWatchdog_counters (s : State) : (discardWatchdog s).counters = s.counters := rfl
@[simp] theorem discardWatchdog_choice (s : State) : (discardWatchdog s).choice = s.choice := rfl
@[simp] theorem discardWatchdog_pending (s : State) : (discardWatchdog s).pending = s.pending := rfl

/-! ### writeLog -/

@[simp] theorem writeLog_now (c : RestartCause) (a : RestartAction) (s : State) : (writeLog c a s).now = s.now := rfl
@[simp] theorem writeLog_power (c : RestartCause) (a : RestartAction) (s : State) : (writeLog c a s).power = s.power := rfl
@[simp] theorem writeLog_heat (c : RestartCause) (a : RestartAction) (s : State) : (writeLog c a s).heat = s.heat := rfl
@[simp] theorem writeLog_probe (c : RestartCause) (a : RestartAction) (s : State) : (writeLog c a s).probe = s.probe := rfl
@[simp] theorem writeLog_flags (c : RestartCause) (a : RestartAction) (s : State) : (writeLog c a s).flags = s.flags := rfl
@[simp] theorem writeLog_acts (c : RestartCause) (a : RestartAction) (s : State) : (writeLog c a s).acts = s.acts := rfl
@[simp] theorem writeLog_pad (c : RestartCause) (a : RestartAction) (s : State) : (writeLog c a s).pad = s.pad := rfl
@[simp] theorem writeLog_keymap (c : RestartCause) (a : RestartAction) (s : State) : (writeLog c a s).keymap = s.keymap := rfl
@[simp] theorem writeLog_relay (c : RestartCause) (a : RestartAction) (s : State) : (writeLog c a s).relay = s.relay := rfl
@[simp] theorem writeLog_panel (c : RestartCause) (a : RestartAction) (s : State) : (writeLog c a s).panel = s.panel := rfl
@[simp] theorem writeLog_store (c : RestartCause) (a : RestartAction) (s : State) : (writeLog c a s).store = s.store := rfl
@[simp] theorem writeLog_imageState (c : RestartCause) (a : RestartAction) (s : State) : (writeLog c a s).imageState = s.imageState := rfl
@[simp] theorem writeLog_outs (c : RestartCause) (a : RestartAction) (s : State) : (writeLog c a s).outs = s.outs := rfl
@[simp] theorem writeLog_errs (c : RestartCause) (a : RestartAction) (s : State) : (writeLog c a s).errs = s.errs := rfl
@[simp] theorem writeLog_counters (c : RestartCause) (a : RestartAction) (s : State) : (writeLog c a s).counters = s.counters := rfl
@[simp] theorem writeLog_choice (c : RestartCause) (a : RestartAction) (s : State) : (writeLog c a s).choice = s.choice := rfl
@[simp] theorem writeLog_pending (c : RestartCause) (a : RestartAction) (s : State) : (writeLog c a s).pending = s.pending := rfl

/-! ### beginScan -/

@[simp] theorem beginScan_now (t : Nat) (s : State) : (beginScan t s).now = s.now := rfl
@[simp] theorem beginScan_power (t : Nat) (s : State) : (beginScan t s).power = s.power := rfl
@[simp] theorem beginScan_hpc (t : Nat) (s : State) : (beginScan t s).hpc = s.hpc := rfl
@[simp] theorem beginScan_heat (t : Nat) (s : State) : (beginScan t s).heat = s.heat := rfl
@[simp] theorem beginScan_probe (t : Nat) (s : State) : (beginScan t s).probe = s.probe := rfl
@[simp] theorem beginScan_flags (t : Nat) (s : State) : (beginScan t s).flags = s.flags := rfl
@[simp] theorem beginScan_acts (t : Nat) (s : State) : (beginScan t s).acts = s.acts := rfl
@[simp] theorem beginScan_keymap (t : Nat) (s : State) : (beginScan t s).keymap = s.keymap := rfl
@[simp] theorem beginScan_relay (t : Nat) (s : State) : (beginScan t s).relay = s.relay := rfl
@[simp] theorem beginScan_panel (t : Nat) (s : State) : (beginScan t s).panel = s.panel := rfl
@[simp] theorem beginScan_store (t : Nat) (s : State) : (beginScan t s).store = s.store := rfl
@[simp] theorem beginScan_imageState (t : Nat) (s : State) : (beginScan t s).imageState = s.imageState := rfl
@[simp] theorem beginScan_outs (t : Nat) (s : State) : (beginScan t s).outs = s.outs := rfl
@[simp] theorem beginScan_errs (t : Nat) (s : State) : (beginScan t s).errs = s.errs := rfl
@[simp] theorem beginScan_counters (t : Nat) (s : State) : (beginScan t s).counters = s.counters := rfl
@[simp] theorem beginScan_choice (t : Nat) (s : State) : (beginScan t s).choice = s.choice := rfl
@[simp] theorem beginScan_pending (t : Nat) (s : State) : (beginScan t s).pending = s.pending := rfl

/-! ### clearKeymap -/

@[simp] theorem clearKeymap_now (s : State) : (clearKeymap s).now = s.now := rfl
@[simp] theorem clearKeymap_power (s : State) : (clearKeymap s).power = s.power := rfl
@[simp] theorem clearKeymap_hpc (s : State) : (clearKeymap s).hpc = s.hpc := rfl
@[simp] theorem clearKeymap_heat (s : State) : (clearKeymap s).heat = s.heat := rfl
@[simp] theorem clearKeymap_probe (s : State) : (clearKeymap s).probe = s.probe := rfl
@[simp] theorem clearKeymap_flags (s : State) : (clearKeymap s).flags = s.flags := rfl
@[simp] theorem clearKeymap_acts (s : State) : (clearKeymap s).acts = s.acts := rfl
@[simp] theorem clearKeymap_pad (s : State) : (clearKeymap s).pad = s.pad := rfl
@[simp] theorem clearKeymap_relay (s : State) : (clearKeymap s).relay = s.relay := rfl
@[simp] theorem clearKeymap_panel (s : State) : (clearKeymap s).panel = s.panel := rfl
@[simp] theorem clearKeymap_store (s : State) : (clearKeymap s).store = s.store := rfl
@[simp] theorem clearKeymap_imageState (s : State) : (clearKeymap s).imageState = s.imageState := rfl
@[simp] theorem clearKeymap_outs (s : State) : (clearKeymap s).outs = s.outs := rfl
@[simp] theorem clearKeymap_errs (s : State) : (clearKeymap s).errs = s.errs := rfl
@[simp] theorem clearKeymap_counters (s : State) : (clearKeymap s).counters = s.counters := rfl
@[simp] theorem clearKeymap_choice (s : State) : (clearKeymap s).choice = s.choice := rfl
@[simp] theorem clearKeymap_pending (s : State) : (clearKeymap s).pending = s.pending := rfl

/-! ### queueChannels -/

@[simp] theorem queueChannels_now (s : State) : (queueChannels s).now = s.now := rfl
@[simp] theorem queueChannels_power (s : State) : (queueChannels s).power = s.power := rfl
@[simp] theorem queueChannels_hpc (s : State) : (queueChannels s).hpc = s.hpc := rfl
@[simp] theorem queueChannels_heat (s : State) : (queueChannels s).heat = s.heat := rfl
@[simp] theorem queueChannels_flags (s : State) : (queueChannels s).flags = s.flags := rfl
@[simp] theorem queueChannels_acts (s : State) : (queueChannels s).acts = s.acts := rfl
@[simp] theorem queueChannels_pad (s : State) : (queueChannels s).pad = s.pad := rfl
@[simp] theorem queueChannels_keymap (s : State) : (queueChannels s).keymap = s.keymap := rfl
@[simp] theorem queueChannels_relay (s : State) : (queueChannels s).relay = s.relay := rfl
@[simp] theorem queueChannels_panel (s : State) : (queueChannels s).panel = s.panel := rfl
@[simp] theorem queueChannels_store (s : State) : (queueChannels s).store = s.store := rfl
@[simp] theorem queueChannels_imageState (s : State) : (queueChannels s).imageState = s.imageState := rfl
@[simp] theorem queueChannels_outs (s : State) : (queueChannels s).outs = s.outs := rfl
@[simp] theorem queueChannels_errs (s : State) : (queueChannels s).errs = s.errs := rfl
@[simp] theorem queueChannels_counters (s : State) : (queueChannels s).counters = s.counters := rfl
@[simp] theorem queueChannels_choice (s : State) : (queueChannels s).choice = s.choice := rfl
@[simp] theorem queueChannels_pending (s : State) : (queueChannels s).pending = s.pending := rfl

/-! ### resetRecords -/

@[simp] theorem resetRecords_now (s : State) : (resetRecords s).now = s.now := rfl
@[simp] theorem resetRecords_power (s : State) : (resetRecords s).power = s.power := rfl
@[simp] theorem resetRecords_hpc (s : State) : (resetRecords s).hpc = s.hpc := rfl
@[simp] theorem resetRecords_heat (s : State) : (resetRecords s).heat = s.heat := rfl
@[simp] theorem resetRecords_probe (s : State) : (resetRecords s).probe = s.probe := rfl
@[simp] theorem resetRecords_acts (s : State) : (resetRecords s).acts = s.acts := rfl
@[simp] theorem resetRecords_pad (s : State) : (resetRecords s).pad = s.pad := rfl
@[simp] theorem resetRecords_keymap (s : State) : (resetRecords s).keymap = s.keymap := rfl
@[simp] theorem resetRecords_relay (s : State) : (resetRecords s).relay = s.relay := rfl
@[simp] theorem resetRecords_panel (s : State) : (resetRecords s).panel = s.panel := rfl
@[simp] theorem resetRecords_store (s : State) : (resetRecords s).store = s.store := rfl
@[simp] theorem resetRecords_imageState (s : State) : (resetRecords s).imageState = s.imageState := rfl
@[simp] theorem resetRecords_outs (s : State) : (resetRecords s).outs = s.outs := rfl
@[simp] theorem resetRecords_choice (s : State) : (resetRecords s).choice = s.choice := rfl
@[simp] theorem resetRecords_pending (s : State) : (resetRecords s).pending = s.pending := rfl

/-! ### beginStore -/

@[simp] theorem beginStore_now (tag : Tag) (v : Speed) (s : State) : (beginStore tag v s).now = s.now := rfl
@[simp] theorem beginStore_power (tag : Tag) (v : Speed) (s : State) : (beginStore tag v s).power = s.power := rfl
@[simp] theorem beginStore_hpc (tag : Tag) (v : Speed) (s : State) : (beginStore tag v s).hpc = s.hpc := rfl
@[simp] theorem beginStore_heat (tag : Tag) (v : Speed) (s : State) : (beginStore tag v s).heat = s.heat := rfl
@[simp] theorem beginStore_probe (tag : Tag) (v : Speed) (s : State) : (beginStore tag v s).probe = s.probe := rfl
@[simp] theorem beginStore_flags (tag : Tag) (v : Speed) (s : State) : (beginStore tag v s).flags = s.flags := rfl
@[simp] theorem beginStore_acts (tag : Tag) (v : Speed) (s : State) : (beginStore tag v s).acts = s.acts := rfl
@[simp] theorem beginStore_pad (tag : Tag) (v : Speed) (s : State) : (beginStore tag v s).pad = s.pad := rfl
@[simp] theorem beginStore_keymap (tag : Tag) (v : Speed) (s : State) : (beginStore tag v s).keymap = s.keymap := rfl
@[simp] theorem beginStore_relay (tag : Tag) (v : Speed) (s : State) : (beginStore tag v s).relay = s.relay := rfl
@[simp] theorem beginStore_panel (tag : Tag) (v : Speed) (s : State) : (beginStore tag v s).panel = s.panel := rfl
@[simp] theorem beginStore_store (tag : Tag) (v : Speed) (s : State) : (beginStore tag v s).store = s.store := rfl
@[simp] theorem beginStore_outs (tag : Tag) (v : Speed) (s : State) : (beginStore tag v s).outs = s.outs := rfl
@[simp] theorem beginStore_errs (tag : Tag) (v : Speed) (s : State) : (beginStore tag v s).errs = s.errs := rfl
@[simp] theorem beginStore_counters (tag : Tag) (v : Speed) (s : State) : (beginStore tag v s).counters = s.counters := rfl
@[simp] theorem beginStore_choice (tag : Tag) (v : Speed) (s : State) : (beginStore tag v s).choice = s.choice := rfl
@[simp] theorem beginStore_pending (tag : Tag) (v : Speed) (s : State) : (beginStore tag v s).pending = s.pending := rfl

/-! ### advanceTime -/

@[simp] theorem advanceTime_power (s : State) : (advanceTime s).power = s.power := rfl
@[simp] theorem advanceTime_hpc (s : State) : (advanceTime s).hpc = s.hpc := rfl
@[simp] theorem advanceTime_heat (s : State) : (advanceTime s).heat = s.heat := rfl
@[simp] theorem advanceTime_probe (s : State) : (advanceTime s).probe = s.probe := rfl
@[simp] theorem advanceTime_flags (s : State) : (advanceTime s).flags = s.flags := rfl
@[simp] theorem advanceTime_acts (s : State) : (advanceTime s).acts = s.acts := rfl
@[simp] theorem advanceTime_pad (s : State) : (advanceTime s).pad = s.pad := rfl
@[simp] theorem advanceTime_keymap (s : State) : (advanceTime s).keymap = s.keymap := rfl
@[simp] theorem advanceTime_relay (s : State) : (advanceTime s).relay = s.relay := rfl
@[simp] theorem advanceTime_panel (s : State) : (advanceTime s).panel = s.panel := rfl
@[simp] theorem advanceTime_store (s : State) : (advanceTime s).store = s.store := rfl
@[simp] theorem advanceTime_imageState (s : State) : (advanceTime s).imageState = s.imageState := rfl
@[simp] theorem advanceTime_outs (s : State) : (advanceTime s).outs = s.outs := rfl
@[simp] theorem advanceTime_errs (s : State) : (advanceTime s).errs = s.errs := rfl
@[simp] theorem advanceTime_counters (s : State) : (advanceTime s).counters = s.counters := rfl
@[simp] theorem advanceTime_choice (s : State) : (advanceTime s).choice = s.choice := rfl
@[simp] theorem advanceTime_pending (s : State) : (advanceTime s).pending = s.pending := rfl

/-! ### raiseEvent -/

@[simp] theorem raiseEvent_now (i : Instr) (s : State) : (raiseEvent i s).now = s.now := rfl
@[simp] theorem raiseEvent_power (i : Instr) (s : State) : (raiseEvent i s).power = s.power := rfl
@[simp] theorem raiseEvent_hpc (i : Instr) (s : State) : (raiseEvent i s).hpc = s.hpc := rfl
@[simp] theorem raiseEvent_heat (i : Instr) (s : State) : (raiseEvent i s).heat = s.heat := rfl
@[simp] theorem raiseEvent_probe (i : Instr) (s : State) : (raiseEvent i s).probe = s.probe := rfl
@[simp] theorem raiseEvent_flags (i : Instr) (s : State) : (raiseEvent i s).flags = s.flags := rfl
@[simp] theorem raiseEvent_acts (i : Instr) (s : State) : (raiseEvent i s).acts = s.acts := rfl
@[simp] theorem raiseEvent_pad (i : Instr) (s : State) : (raiseEvent i s).pad = s.pad := rfl
@[simp] theorem raiseEvent_keymap (i : Instr) (s : State) : (raiseEvent i s).keymap = s.keymap := rfl
@[simp] theorem raiseEvent_relay (i : Instr) (s : State) : (raiseEvent i s).relay = s.relay := rfl
@[simp] theorem raiseEvent_panel (i : Instr) (s : State) : (raiseEvent i s).panel = s.panel := rfl
@[simp] theorem raiseEvent_store (i : Instr) (s : State) : (raiseEvent i s).store = s.store := rfl
@[simp] theorem raiseEvent_imageState (i : Instr) (s : State) : (raiseEvent i s).imageState = s.imageState := rfl
@[simp] theorem raiseEvent_outs (i : Instr) (s : State) : (raiseEvent i s).outs = s.outs := rfl
@[simp] theorem raiseEvent_errs (i : Instr) (s : State) : (raiseEvent i s).errs = s.errs := rfl
@[simp] theorem raiseEvent_counters (i : Instr) (s : State) : (raiseEvent i s).counters = s.counters := rfl
@[simp] theorem raiseEvent_choice (i : Instr) (s : State) : (raiseEvent i s).choice = s.choice := rfl

/-! ### What they write -/

@[simp] theorem placeReply_replies (r : Reply) (s : State) : (placeReply r s).panel.replies = s.panel.replies ++ [r] := by
  simp [placeReply]
@[simp] theorem placeReply_notices (r : Reply) (s : State) : (placeReply r s).panel.notices = s.panel.notices := by
  simp [placeReply]

/-- Placing a reply asks the transmitter at once (R165). -/
@[simp] theorem startTransmit_placeReply (r : Reply) (s : State) : startTransmit (placeReply r s) = placeReply r s := by
  simp [placeReply]

/-- A reply placed while a frame is being sent waits for its end (R165). -/
theorem placeReply_busy {s : State} (h : s.panel.tx ≠ .idle) (r : Reply) :
    placeReply r s = { s with panel.replies := s.panel.replies ++ [r] } := startTransmit_busy h

/-- A reply placed with the transmitter idle in a delivering state is begun, or an older one before it (R165). -/
theorem placeReply_idle {s : State} (h : s.hpc.host.delivers = true) (hi : s.panel.tx = .idle) (r : Reply) :
    placeReply r s = { s with panel.replies := s.panel.replies ++ [r], panel.tx := .reply } :=
  startTransmit_reply (s := { s with panel.replies := s.panel.replies ++ [r] }) h hi (by simp)

@[simp] theorem flushQueues_replies (s : State) : (flushQueues s).panel.replies = [] := rfl
@[simp] theorem flushQueues_notices (s : State) : (flushQueues s).panel.notices = [] := rfl
@[simp] theorem flushQueues_tx (s : State) : (flushQueues s).panel.tx = .idle := rfl
@[simp] theorem setStack_stack (l : List StackEntry) (s : State) : (setStack l s).keymap.stack = l := rfl
@[simp] theorem setStack_positions (l : List StackEntry) (s : State) :
    (setStack l s).keymap.positions = s.keymap.positions := rfl
@[simp] theorem setKey_stack (p : Position) (x : KeyPosition) (s : State) : (setKey p x s).keymap.stack = s.keymap.stack := rfl
@[simp] theorem setKey_positions (p : Position) (x : KeyPosition) (s : State) :
    (setKey p x s).keymap.positions = vset s.keymap.positions p x := rfl
@[simp] theorem setPad_positions (p : Position) (x : PadPosition) (s : State) :
    (setPad p x s).pad.positions = vset s.pad.positions p x := rfl
@[simp] theorem setPad_record (p : Position) (x : PadPosition) (s : State) : (setPad p x s).pad.record = s.pad.record := rfl
@[simp] theorem setPad_count (p : Position) (x : PadPosition) (s : State) : (setPad p x s).pad.count = s.pad.count := rfl
@[simp] theorem setChan_chans (c : Channel) (x : ChannelState) (s : State) :
    (setChan c x s).probe.chans = vset s.probe.chans c x := rfl
@[simp] theorem setChan_table (c : Channel) (x : ChannelState) (s : State) :
    (setChan c x s).probe.table = s.probe.table := rfl
@[simp] theorem setRule_rules (i : Slot) (r : RuleState) (s : State) :
    (setRule i r s).acts.rules = vset s.acts.rules i r := rfl
@[simp] theorem setRule_entries (i : Slot) (r : RuleState) (s : State) :
    (setRule i r s).acts.entries = s.acts.entries := rfl
@[simp] theorem abandonRelay_queue (s : State) : (abandonRelay s).relay.queue = [] := rfl
@[simp] theorem reach_now (t : Nat) (s : State) : (reach t s).now = max s.now t := rfl
@[simp] theorem advanceTime_now (s : State) : (advanceTime s).now = s.now + 1 := rfl
@[simp] theorem raiseEvent_pending (i : Instr) (s : State) : (raiseEvent i s).pending = [i] := rfl

/-! ### Table entries -/

/-- The entry written to a table is read back. -/
@[simp] theorem vset_self {α : Type} {n : Nat} (v : Vector α n) (i : Fin n) (x : α) : (vset v i x)[i] = x := by
  simp [vset]

/-- A write to a table leaves every other entry alone. -/
theorem vset_other {α : Type} {n : Nat} (v : Vector α n) {i j : Fin n} (x : α) (h : j ≠ i) : (vset v i x)[j] = v[j] := by
  simp only [vset, Fin.getElem_fin]
  exact Vector.getElem_set_ne _ _ (fun e => h (Fin.ext e.symm))

/-- A function applied to every entry of a table. -/
@[simp] theorem vmap_get {α β : Type} {n : Nat} (f : α → β) (v : Vector α n) (i : Fin n) : (vmap f v)[i] = f v[i] := by
  simp [vmap]

/-- The entries of a vector of four. -/
@[simp] theorem quad_get {α : Type} (f : Zone → α) (z : Zone) : (quad f)[z] = f z := by
  fin_cases z <;> rfl

end Sys2Proof.Machine
end

