-- ==== Sys2Proof/Laws/Ops.lean ====
section
/-! SUPPORT. What the shared operations do: notices and errors, the transmitter, the take of a frame and its answer. -/

namespace Sys2Proof.Machine

open Sys2Proof

/-! ### Notices and errors -/

/-- Only the error record, the counters, the notice queue and the transmitter differ between two states. -/
def OnlyReports (s t : State) : Prop :=
  ∃ e c n x, t = { s with errs := e, counters := c, panel := { s.panel with notices := n, tx := x } }

theorem OnlyReports.refl (s : State) : OnlyReports s s := ⟨s.errs, s.counters, s.panel.notices, s.panel.tx, rfl⟩

theorem OnlyReports.trans {s t u : State} (h : OnlyReports s t) (k : OnlyReports t u) : OnlyReports s u := by
  obtain ⟨e, c, n, x, rfl⟩ := h
  obtain ⟨e', c', n', x', rfl⟩ := k
  exact ⟨e', c', n', x', rfl⟩

theorem countEvent_reports (e : CounterEvent) (s : State) : OnlyReports s (countEvent e s) :=
  ⟨s.errs, (countEvent e s).counters, s.panel.notices, s.panel.tx, rfl⟩

theorem latchError_reports (c : ErrorClass) (f : ErrorFields) (s : State) : OnlyReports s (latchError c f s) :=
  ⟨(latchError c f s).errs, s.counters, s.panel.notices, s.panel.tx, rfl⟩

theorem dropNotice_reports (code : Nat) (s : State) : OnlyReports s (dropNotice code s) := by
  have once : ∀ k s, OnlyReports s (dropOnce k s) := fun k s =>
    (countEvent_reports .noticesLost s).trans (latchError_reports .noticeLost _ _)
  unfold dropNotice
  split
  · exact (once code s).trans (once _ _)
  · exact once code s

/-- Handing a notice changes only the notice queue and the transmitter, or for a full queue the error record and the
counters. -/
theorem handNotice_reports (n : Notice) (s : State) : OnlyReports s (handNotice n s) := by
  unfold handNotice
  split
  · split
    · exact ⟨s.errs, s.counters, s.panel.notices ++ [n], _, startTransmit_eq _⟩
    · exact dropNotice_reports _ _
  · exact .refl s

/-- Recording an error changes only the error record, the counters, the notice queue and the transmitter. -/
theorem recordError_reports (c : ErrorClass) (f : ErrorFields) (s : State) : OnlyReports s (recordError c f s) := by
  unfold recordError
  split
  · exact (latchError_reports c f s).trans (handNotice_reports _ _)
  · exact latchError_reports c f s

theorem OnlyReports.hpc {s t : State} (h : OnlyReports s t) : t.hpc = s.hpc := by obtain ⟨_, _, _, _, rfl⟩ := h; rfl
theorem OnlyReports.now {s t : State} (h : OnlyReports s t) : t.now = s.now := by obtain ⟨_, _, _, _, rfl⟩ := h; rfl
theorem OnlyReports.heat {s t : State} (h : OnlyReports s t) : t.heat = s.heat := by obtain ⟨_, _, _, _, rfl⟩ := h; rfl
theorem OnlyReports.probe {s t : State} (h : OnlyReports s t) : t.probe = s.probe := by obtain ⟨_, _, _, _, rfl⟩ := h; rfl
theorem OnlyReports.relay {s t : State} (h : OnlyReports s t) : t.relay = s.relay := by obtain ⟨_, _, _, _, rfl⟩ := h; rfl
theorem OnlyReports.replies {s t : State} (h : OnlyReports s t) : t.panel.replies = s.panel.replies := by
  obtain ⟨_, _, _, _, rfl⟩ := h; rfl
theorem OnlyReports.imageState {s t : State} (h : OnlyReports s t) : t.imageState = s.imageState := by
  obtain ⟨_, _, _, _, rfl⟩ := h; rfl
theorem OnlyReports.pending {s t : State} (h : OnlyReports s t) : t.pending = s.pending := by
  obtain ⟨_, _, _, _, rfl⟩ := h; rfl

@[simp] theorem recordError_hpc (c : ErrorClass) (f : ErrorFields) (s : State) : (recordError c f s).hpc = s.hpc :=
  (recordError_reports c f s).hpc
@[simp] theorem recordError_heat (c : ErrorClass) (f : ErrorFields) (s : State) : (recordError c f s).heat = s.heat :=
  (recordError_reports c f s).heat
@[simp] theorem recordError_probe (c : ErrorClass) (f : ErrorFields) (s : State) : (recordError c f s).probe = s.probe :=
  (recordError_reports c f s).probe
@[simp] theorem recordError_relay (c : ErrorClass) (f : ErrorFields) (s : State) : (recordError c f s).relay = s.relay :=
  (recordError_reports c f s).relay
@[simp] theorem recordError_replies (c : ErrorClass) (f : ErrorFields) (s : State) :
    (recordError c f s).panel.replies = s.panel.replies := (recordError_reports c f s).replies
@[simp] theorem recordError_pending (c : ErrorClass) (f : ErrorFields) (s : State) :
    (recordError c f s).pending = s.pending := (recordError_reports c f s).pending
@[simp] theorem handNotice_hpc (n : Notice) (s : State) : (handNotice n s).hpc = s.hpc := (handNotice_reports n s).hpc
@[simp] theorem handNotice_heat (n : Notice) (s : State) : (handNotice n s).heat = s.heat := (handNotice_reports n s).heat
@[simp] theorem handNotice_probe (n : Notice) (s : State) : (handNotice n s).probe = s.probe := (handNotice_reports n s).probe
@[simp] theorem handNotice_relay (n : Notice) (s : State) : (handNotice n s).relay = s.relay := (handNotice_reports n s).relay
@[simp] theorem handNotice_replies (n : Notice) (s : State) : (handNotice n s).panel.replies = s.panel.replies :=
  (handNotice_reports n s).replies
@[simp] theorem handNotice_pending (n : Notice) (s : State) : (handNotice n s).pending = s.pending :=
  (handNotice_reports n s).pending

/-! ### Frames and answers -/

/-- A frame that the receiver takes reaches its owner. -/
theorem takeFrame_accepts {s : State} (h : Accepts s) (tag : Tag) (f : State → State) : takeFrame tag f s = f s := by
  simp [takeFrame, h.1, h.2]

/-- A frame sent while the receiver is disabled changes nothing. -/
theorem takeFrame_deaf {s : State} (h : s.hpc.host.delivers = false) (tag : Tag) (f : State → State) :
    takeFrame tag f s = s := by
  simp [takeFrame, h]

/-- An answer that is not BAD_REQUEST, in a host state that delivers: its reply is placed. -/
theorem answer_placed {s : State} (h : s.hpc.host.delivers = true) (tag : Tag) (op : Byte) (a : Answer)
    (hb : a.status ≠ .badRequest) :
    answer tag op a s
      = placeReply { tag := tag, address := 0, status := a.status, payload := a.payload, restart := a.restart } s := by
  simp [answer, hb, h]

/-- BAD_REQUEST is replied and recorded. -/
theorem answer_bad {s : State} (h : s.hpc.host.delivers = true) (tag : Tag) (op : Byte) :
    startTransmit (answer tag op (.refuse .badRequest) s) = repliedBad tag op s := by
  simp [answer, repliedBad, Answer.refuse, h]

/-- A supervisor operation taken and not refused with BAD_REQUEST, in a host state that still delivers after it. -/
theorem supervisorOp_accepts {s : State} (h : Accepts s) (tag : Tag) (op : Byte) (owner : State → State × Answer)
    (hd : (owner s).1.hpc.host.delivers = true) (hb : (owner s).2.status ≠ .badRequest) :
    supervisorOp tag op owner s = .next (startTransmit (placeReply
      { tag := tag, address := 0, status := (owner s).2.status, payload := (owner s).2.payload
        restart := (owner s).2.restart } (owner s).1)) := by
  simp [supervisorOp, finish, takeFrame_accepts h, answer_placed hd tag op _ hb]

/-- A supervisor operation that its owner refuses with BAD_REQUEST. -/
theorem supervisorOp_bad {s : State} (h : Accepts s) (tag : Tag) (op : Byte) (owner : State → State × Answer)
    (ho : owner s = (s, .refuse .badRequest)) : supervisorOp tag op owner s = .next (repliedBad tag op s) := by
  simp [supervisorOp, finish, takeFrame_accepts h, ho, answer_bad h.1]

/-- A LOAD operation while the Image Store is storing. -/
theorem loadOp_storing {α : Type} {s : State} (h : s.imageState.isStoring = true) (d : Option α)
    (load : α → State → State × Answer) : loadOp d load s = (s, .refuse .state) := by
  simp [loadOp, h]

/-- A LOAD operation whose record decodes. -/
theorem loadOp_some {α : Type} {s : State} (h : s.imageState.isStoring = false) (r : α)
    (load : α → State → State × Answer) : loadOp (some r) load s = load r s := by
  simp [loadOp, h]

/-- A LOAD operation whose record does not decode. -/
theorem loadOp_none {α : Type} {s : State} (h : s.imageState.isStoring = false) (load : α → State → State × Answer) :
    loadOp none load s = (s, .refuse .badRequest) := by
  simp [loadOp, h]

/-! ### Misses -/

/-- A miss of a channel already missing changes its misses count and the event counters, and nothing else (R56). -/
theorem takeMiss_missing {s : State} {c : Channel} (h : s.probe.chans[c].missing = true) (checked : Bool) :
    takeMiss c checked s = countEvent .pollMisses
      (setChan c { s.probe.chans[c] with misses := min (s.probe.chans[c].misses + 1) 15 } s) := by
  simp only [takeMiss, h, Bool.not_true, Bool.and_false, Bool.false_eq_true, if_false]
  simp only [checkMissing, countEvent, setChan_chans, vset_self, Bool.not_true, Bool.false_and,
    Bool.false_eq_true, if_false]

/-! ### The termination check -/

/-- A top whose code is true is popped, and the check goes on with the new top (R138). -/
theorem terminate_pop {n : Nat} {s : State} {top : StackEntry} {rest : List StackEntry} (hs : s.keymap.stack = top :: rest)
    (h : condition s top.termination = true) : terminate (n + 1) s = terminate n (setStack rest s) := by
  simp [terminate, hs, h]

/-- The check ends at a top whose code is false (R138). -/
theorem terminate_stop {n : Nat} {s : State} {top : StackEntry} {rest : List StackEntry} (hs : s.keymap.stack = top :: rest)
    (h : condition s top.termination = false) : terminate (n + 1) s = s := by
  simp [terminate, hs, h]

/-! ### The relay's report -/

/-- A report that does not stand changes nothing (R18). -/
theorem reportRelayEmpty_of_not {s : State} (h : relayReportsEmpty s = false) : reportRelayEmpty s = s := by
  simp [reportRelayEmpty, h]

/-- Calm says that no report stands. -/
theorem calm_iff (s : State) : Calm s ↔ relayReportsEmpty s = false := by
  simp [Calm, relayReportsEmpty]

/-- Outside DRAIN no report stands. -/
theorem calm_of_host {s : State} (h : s.hpc.host ≠ .drain) : Calm s := fun c => h c.1

/-- A command taken with no report standing is the event alone. -/
theorem upon_calm {s : State} (h : Calm s) (event : State → Result) : upon s event = event s := by
  rw [upon, reportRelayEmpty_of_not ((calm_iff s).1 h)]

/-- A command taken with a report standing acts where rail-off has begun (R18). -/
theorem upon_report {s : State} (h : relayReportsEmpty s = true) (event : State → Result) :
    upon s event = event (beginRailOff s) := by
  simp [upon, reportRelayEmpty, h]

/-- Once rail-off has begun no report stands. -/
@[simp] theorem relayReportsEmpty_beginRailOff (s : State) : relayReportsEmpty (beginRailOff s) = false := by
  simp [relayReportsEmpty, beginRailOff]

end Sys2Proof.Machine
end

