-- ==== Sys2Proof/Laws/PerInstr.lean ====
section
/-! SUPPORT. The payload of every command's frame fits a frame (Table 10-1), and a command has a payload exactly when it has
an op code (Table 10-3): one lemma per command. -/

namespace Sys2Proof.Laws.Payload

open Sys2Proof

/-- A well-formed command that is a frame has an op code of one byte and at most 48 payload bytes, and its address is 0 but
for READ and WRITE; a command without an op code is no frame. -/
def Statement (i : Instr) : Prop :=
  i.wellFormed = true →
    (opCode i).isSome = (frameFields i).isSome
    ∧ ∀ op t a p, opCode i = some op → frameFields i = some (t, a, p) →
        op < 256 ∧ p.length ≤ Config.maxPayload ∧ (op = 0x01 ∨ op = 0x02 ∨ a = 0)

/-- An event that is no frame. -/
theorem of_event {i : Instr} (h : opCode i = none) (h' : frameFields i = none) : Statement i :=
  fun _ => ⟨by rw [h, h']; rfl, fun _ _ _ _ k => by simp [h] at k⟩

/-- A frame whose fields are known. -/
theorem of_frame {i : Instr} {op : Nat} {t : Tag} {a : Addr} {p : List Byte} (h : opCode i = some op)
    (h' : frameFields i = some (t, a, p)) (hop : op < 256) (ha : op = 0x01 ∨ op = 0x02 ∨ a = 0)
    (hp : i.wellFormed = true → p.length ≤ Config.maxPayload) : Statement i := by
  refine fun w => ⟨by rw [h, h']; rfl, fun _ _ _ _ k k' => ?_⟩
  rw [h] at k
  rw [h'] at k'
  cases k
  cases k'
  exact ⟨hop, hp w, ha⟩

/-- A length that a check fixes fits a frame. -/
theorem fits {n k : Nat} (h : (n == k) = true) (hk : k ≤ 48) : n ≤ Config.maxPayload := by
  rw [beq_iff_eq.mp h]
  exact hk

theorem powerOn : Statement .powerOn :=
  of_event rfl rfl

theorem imageLoadComplete : Statement .imageLoadComplete :=
  of_event rfl rfl

theorem read (tag : Tag) (address : Addr) (length : Byte) : Statement (.read tag address length) :=
  of_frame rfl rfl (by decide) (.inl rfl) (fun _ => Nat.le_of_ble_eq_true rfl)

theorem write (tag : Tag) (address : Addr) (data : List Byte) : Statement (.write tag address data) :=
  of_frame rfl rfl (by decide) (.inr (.inl rfl)) (fun w => by
    simp only [Instr.wellFormed, writeLengthFits, Bool.and_eq_true, decide_eq_true_eq] at w
    exact w.2.trans (by decide))

theorem heartbeat (tag : Tag) (seq : Byte) : Statement (.heartbeat tag seq) :=
  of_frame rfl rfl (by decide) (.inr (.inr rfl)) (fun _ => Nat.le_of_ble_eq_true rfl)

theorem hostRestart (tag : Tag) (kind : Byte) : Statement (.hostRestart tag kind) :=
  of_frame rfl rfl (by decide) (.inr (.inr rfl)) (fun _ => Nat.le_of_ble_eq_true rfl)

theorem shutdown (tag : Tag) (keepWarm : Byte) : Statement (.shutdown tag keepWarm) :=
  of_frame rfl rfl (by decide) (.inr (.inr rfl)) (fun _ => Nat.le_of_ble_eq_true rfl)

theorem loadSequence (tag : Tag) (payload : List Byte) : Statement (.loadSequence tag payload) :=
  of_frame rfl rfl (by decide) (.inr (.inr rfl)) (fun w => fits w (by decide))

theorem loadLadder (tag : Tag) (payload : List Byte) : Statement (.loadLadder tag payload) :=
  of_frame rfl rfl (by decide) (.inr (.inr rfl)) (fun w => fits w (by decide))

theorem loadZone (tag : Tag) (payload : List Byte) : Statement (.loadZone tag payload) :=
  of_frame rfl rfl (by decide) (.inr (.inr rfl)) (fun w => fits w (by decide))

theorem loadBudget (tag : Tag) (payload : List Byte) : Statement (.loadBudget tag payload) :=
  of_frame rfl rfl (by decide) (.inr (.inr rfl)) (fun w => fits w (by decide))

theorem loadChannel (tag : Tag) (payload : List Byte) : Statement (.loadChannel tag payload) :=
  of_frame rfl rfl (by decide) (.inr (.inr rfl)) (fun w => fits w (by decide))

theorem loadPoll (tag : Tag) (payload : List Byte) : Statement (.loadPoll tag payload) :=
  of_frame rfl rfl (by decide) (.inr (.inr rfl)) (fun w => fits w (by decide))

theorem loadAction (tag : Tag) (payload : List Byte) : Statement (.loadAction tag payload) :=
  of_frame rfl rfl (by decide) (.inr (.inr rfl)) (fun w => fits w (by decide))

theorem lockActions (tag : Tag) (count protect : Byte) : Statement (.lockActions tag count protect) :=
  of_frame rfl rfl (by decide) (.inr (.inr rfl)) (fun _ => Nat.le_of_ble_eq_true rfl)

theorem flushActions (tag : Tag) : Statement (.flushActions tag) :=
  of_frame rfl rfl (by decide) (.inr (.inr rfl)) (fun _ => Nat.le_of_ble_eq_true rfl)

theorem loadWindow (tag : Tag) (payload : List Byte) : Statement (.loadWindow tag payload) :=
  of_frame rfl rfl (by decide) (.inr (.inr rfl)) (fun w => fits w (by decide))

theorem loadKeypad (tag : Tag) (payload : List Byte) (requestFirst : BitVec 64) :
    Statement (.loadKeypad tag payload requestFirst) :=
  of_frame rfl rfl (by decide) (.inr (.inr rfl)) (fun w => fits w (by decide))

theorem loadKeymapEntry (tag : Tag) (payload : List Byte) : Statement (.loadKeymapEntry tag payload) :=
  of_frame rfl rfl (by decide) (.inr (.inr rfl)) (fun w => fits w (by decide))

theorem loadKeymapSettings (tag : Tag) (payload : List Byte) : Statement (.loadKeymapSettings tag payload) :=
  of_frame rfl rfl (by decide) (.inr (.inr rfl)) (fun w => fits w (by decide))

theorem clearLayers (tag : Tag) : Statement (.clearLayers tag) :=
  of_frame rfl rfl (by decide) (.inr (.inr rfl)) (fun _ => Nat.le_of_ble_eq_true rfl)

theorem setFlags (tag : Tag) (set clear : Byte) : Statement (.setFlags tag set clear) :=
  of_frame rfl rfl (by decide) (.inr (.inr rfl)) (fun _ => Nat.le_of_ble_eq_true rfl)

theorem writeOutputs (tag : Tag) (mode : Byte) (data : Word) : Statement (.writeOutputs tag mode data) :=
  of_frame rfl rfl (by decide) (.inr (.inr rfl)) (fun _ => Nat.le_of_ble_eq_true rfl)

theorem setOutputMask (tag : Tag) (plane foreground : Word) (indicator : Byte) :
    Statement (.setOutputMask tag plane foreground indicator) :=
  of_frame rfl rfl (by decide) (.inr (.inr rfl)) (fun _ => Nat.le_of_ble_eq_true rfl)

theorem errorClear (tag : Tag) (mask : Word) : Statement (.errorClear tag mask) :=
  of_frame rfl rfl (by decide) (.inr (.inr rfl)) (fun _ => Nat.le_of_ble_eq_true rfl)

theorem setIgnore (tag : Tag) (mask : Word) : Statement (.setIgnore tag mask) :=
  of_frame rfl rfl (by decide) (.inr (.inr rfl)) (fun _ => Nat.le_of_ble_eq_true rfl)

theorem counterSelect (tag : Tag) (counter event : Byte) : Statement (.counterSelect tag counter event) :=
  of_frame rfl rfl (by decide) (.inr (.inr rfl)) (fun _ => Nat.le_of_ble_eq_true rfl)

theorem statusReadHost (tag : Tag) (part : Byte) : Statement (.statusReadHost tag part) :=
  of_frame rfl rfl (by decide) (.inr (.inr rfl)) (fun _ => Nat.le_of_ble_eq_true rfl)

theorem statusReadLog (tag : Tag) (part index : Byte) : Statement (.statusReadLog tag part index) :=
  of_frame rfl rfl (by decide) (.inr (.inr rfl)) (fun _ => Nat.le_of_ble_eq_true rfl)

theorem statusReadHeat (tag : Tag) (part : Byte) : Statement (.statusReadHeat tag part) :=
  of_frame rfl rfl (by decide) (.inr (.inr rfl)) (fun _ => Nat.le_of_ble_eq_true rfl)

theorem statusReadProbe (tag : Tag) (part channel : Byte) : Statement (.statusReadProbe tag part channel) :=
  of_frame rfl rfl (by decide) (.inr (.inr rfl)) (fun _ => Nat.le_of_ble_eq_true rfl)

theorem statusReadConditions (tag : Tag) (part : Byte) : Statement (.statusReadConditions tag part) :=
  of_frame rfl rfl (by decide) (.inr (.inr rfl)) (fun _ => Nat.le_of_ble_eq_true rfl)

theorem statusReadActions (tag : Tag) (part set : Byte) : Statement (.statusReadActions tag part set) :=
  of_frame rfl rfl (by decide) (.inr (.inr rfl)) (fun _ => Nat.le_of_ble_eq_true rfl)

theorem statusReadKeypad (tag : Tag) (part : Byte) : Statement (.statusReadKeypad tag part) :=
  of_frame rfl rfl (by decide) (.inr (.inr rfl)) (fun _ => Nat.le_of_ble_eq_true rfl)

theorem statusReadKeymap (tag : Tag) (part layer position : Byte) : Statement (.statusReadKeymap tag part layer position) :=
  of_frame rfl rfl (by decide) (.inr (.inr rfl)) (fun _ => Nat.le_of_ble_eq_true rfl)

theorem statusReadRelay (tag : Tag) (part : Byte) : Statement (.statusReadRelay tag part) :=
  of_frame rfl rfl (by decide) (.inr (.inr rfl)) (fun _ => Nat.le_of_ble_eq_true rfl)

theorem statusReadOutputs (tag : Tag) (part : Byte) : Statement (.statusReadOutputs tag part) :=
  of_frame rfl rfl (by decide) (.inr (.inr rfl)) (fun _ => Nat.le_of_ble_eq_true rfl)

theorem statusReadErrors (tag : Tag) (part : Byte) : Statement (.statusReadErrors tag part) :=
  of_frame rfl rfl (by decide) (.inr (.inr rfl)) (fun _ => Nat.le_of_ble_eq_true rfl)

theorem statusReadCounters (tag : Tag) (part : Byte) : Statement (.statusReadCounters tag part) :=
  of_frame rfl rfl (by decide) (.inr (.inr rfl)) (fun _ => Nat.le_of_ble_eq_true rfl)

theorem statusReadLink (tag : Tag) (part : Byte) : Statement (.statusReadLink tag part) :=
  of_frame rfl rfl (by decide) (.inr (.inr rfl)) (fun _ => Nat.le_of_ble_eq_true rfl)

theorem storeImage (tag : Tag) (speed : Byte) : Statement (.storeImage tag speed) :=
  of_frame rfl rfl (by decide) (.inr (.inr rfl)) (fun _ => Nat.le_of_ble_eq_true rfl)

theorem storeComplete : Statement .storeComplete :=
  of_event rfl rfl

theorem supervisorReset (tag : Tag) : Statement (.supervisorReset tag) :=
  of_frame rfl rfl (by decide) (.inr (.inr rfl)) (fun _ => Nat.le_of_ble_eq_true rfl)

theorem hostCheckFrame : Statement .hostCheckFrame :=
  of_event rfl rfl

theorem malformedFrame (tag : Tag) (opCode : Byte) (address : Addr) : Statement (.malformedFrame tag opCode address) :=
  of_event rfl rfl

theorem frameLengthAbandon : Statement .frameLengthAbandon :=
  of_event rfl rfl

theorem frameIdleAbandon : Statement .frameIdleAbandon :=
  of_event rfl rfl

theorem transmitComplete : Statement .transmitComplete :=
  of_event rfl rfl

theorem preheatTimerExpiry : Statement .preheatTimerExpiry :=
  of_event rfl rfl

theorem soakTimerExpiry : Statement .soakTimerExpiry :=
  of_event rfl rfl

theorem powerGoodArrival (rail : Rail) : Statement (.powerGoodArrival rail) :=
  of_event rfl rfl

theorem pgTimeoutExpiry : Statement .pgTimeoutExpiry :=
  of_event rfl rfl

theorem settleExpiry : Statement .settleExpiry :=
  of_event rfl rfl

theorem powerGoodFall (rail : Rail) : Statement (.powerGoodFall rail) :=
  of_event rfl rfl

theorem drainTimerExpiry : Statement .drainTimerExpiry :=
  of_event rfl rfl

theorem offSettleExpiry : Statement .offSettleExpiry :=
  of_event rfl rfl

theorem wakeEdge : Statement .wakeEdge :=
  of_event rfl rfl

theorem bootWindowExpiry : Statement .bootWindowExpiry :=
  of_event rfl rfl

theorem heartbeatTimerExpiry : Statement .heartbeatTimerExpiry :=
  of_event rfl rfl

theorem graceExpiry : Statement .graceExpiry :=
  of_event rfl rfl

theorem stableTimeReached : Statement .stableTimeReached :=
  of_event rfl rfl

theorem resetPulseExpiry : Statement .resetPulseExpiry :=
  of_event rfl rfl

theorem powerOffExpiry : Statement .powerOffExpiry :=
  of_event rfl rfl

theorem lockoutRetryExpiry : Statement .lockoutRetryExpiry :=
  of_event rfl rfl

theorem controlPeriodStart : Statement .controlPeriodStart :=
  of_event rfl rfl

theorem driveWindowEdge (zone : Zone) : Statement (.driveWindowEdge zone) :=
  of_event rfl rfl

theorem dueTimeReached (channel : Channel) : Statement (.dueTimeReached channel) :=
  of_event rfl rfl

theorem fieldReply (bytes : List Byte) (resultFirst : Bool) : Statement (.fieldReply bytes resultFirst) :=
  of_event rfl rfl

theorem fieldTimeoutExpiry (resultFirst : Bool) : Statement (.fieldTimeoutExpiry resultFirst) :=
  of_event rfl rfl

theorem cPortReplyGap : Statement .cPortReplyGap :=
  of_event rfl rfl

theorem scanStart : Statement .scanStart :=
  of_event rfl rfl

theorem scanComplete (readings requestFirst : BitVec 64) : Statement (.scanComplete readings requestFirst) :=
  of_event rfl rfl

theorem armDelayExpiry (position : Position) : Statement (.armDelayExpiry position) :=
  of_event rfl rfl

theorem layerTick : Statement .layerTick :=
  of_event rfl rfl

theorem cPortRequestEnd : Statement .cPortRequestEnd :=
  of_event rfl rfl

theorem powerLoss : Statement .powerLoss :=
  of_event rfl rfl

end Sys2Proof.Laws.Payload
end

