-- ==== Sys2Proof/Tests/Slice0.lean ====
section
/-! SUPPORT. Small tests of the model against the manual's own examples and rules, smoke tests of WellFormed, and a witness
for the hypotheses of each obligation. -/

namespace Sys2Proof.Tests

open Sys2Proof Sys2Proof.Machine

set_option Elab.async false

/-! ### States to test on -/

/-- The part under supply in a host state, its lines as R1 gives them. -/
def inHost (h : HostState) : State :=
  { State.reset with
    power := .running
    hpc := { State.reset.hpc with
      host := h, hostReset := !h.delivers, railOff := h = .drain
      enables := if h.powered then #v[true, true, true] else #v[false, false, false]
      up := if h.powered then #v[true, true, true] else #v[false, false, false] } }

/-- The host runs. -/
def run : State := inHost .run

/-- The host runs and a store is in progress. -/
def storing : State := { run with imageState := .storing Image.factory (some 4) 3200 }

/-- The state a command leaves. -/
def after (i : Instr) (s : State) : State :=
  match exec i s with
  | .next t => t
  | _ => s

/-- The status of the oldest reply. -/
def firstStatus (s : State) : Option Status := s.panel.replies.head?.map Reply.status

/-- The payload of the oldest reply. -/
def firstPayload (s : State) : Option (List Byte) := s.panel.replies.head?.map Reply.payload

/-! ### WellFormed: an ill-formed term for each check -/

theorem test_read_length_0 : (Instr.read 0 0 0).wellFormed = false := by decide
theorem test_read_length_17 : (Instr.read 0 0 17).wellFormed = false := by decide
theorem test_write_no_bytes : (Instr.write 0 0 []).wellFormed = false := by decide
theorem test_write_17_bytes : (Instr.write 0 0 (List.replicate 17 1)).wellFormed = false := by decide
theorem test_load_sequence_23 : (Instr.loadSequence 0 (List.replicate 23 0)).wellFormed = false := by decide
theorem test_load_ladder_20 : (Instr.loadLadder 0 (List.replicate 20 0)).wellFormed = false := by decide
theorem test_load_zone_24 : (Instr.loadZone 0 (List.replicate 24 0)).wellFormed = false := by decide
theorem test_load_budget_9 : (Instr.loadBudget 0 (List.replicate 9 0)).wellFormed = false := by decide
theorem test_load_channel_7 : (Instr.loadChannel 0 (List.replicate 7 0)).wellFormed = false := by decide
theorem test_load_poll_8 : (Instr.loadPoll 0 (List.replicate 8 0)).wellFormed = false := by decide
theorem test_load_action_16 : (Instr.loadAction 0 (List.replicate 16 0)).wellFormed = false := by decide
theorem test_load_window_10 : (Instr.loadWindow 0 (List.replicate 10 0)).wellFormed = false := by decide
theorem test_load_keypad_6 : (Instr.loadKeypad 0 (List.replicate 6 0) 0).wellFormed = false := by decide
theorem test_load_keymap_entry_3 : (Instr.loadKeymapEntry 0 (List.replicate 3 0)).wellFormed = false := by decide
theorem test_load_keymap_settings_9 : (Instr.loadKeymapSettings 0 (List.replicate 9 0)).wellFormed = false := by decide
theorem test_full_write_is_well_formed : (Instr.write 0 0 (List.replicate 16 1)).wellFormed = true := by decide

/-! ### Frames: written out byte by byte from Table 10-1 -/

/-- The check value of CRC-16/CCITT-FALSE, the CRC of Table 0-5. -/
theorem test_crc16_check : crc16 [0x31, 0x32, 0x33, 0x34, 0x35, 0x36, 0x37, 0x38, 0x39] = 0x29B1 := by decide +kernel

theorem test_frame_set_flags :
    frameCommand 0 [0xA5, 0x03, 0x38, 0x00, 0x00, 0x02, 0x05, 0x0A, 0x3B, 0x5D] = some (.setFlags 3 0x05 0x0A) := by
  decide +kernel

theorem test_frame_read : frameCommand 0 [0xA5, 0x02, 0x01, 0x30, 0x30, 0x01, 0x04, 0xB5, 0xF8] = some (.read 2 0x3030 4) := by
  decide +kernel

theorem test_frame_wrong_check :
    frameCommand 0 [0xA5, 0x02, 0x01, 0x30, 0x30, 0x01, 0x04, 0xB5, 0xF9] = some .hostCheckFrame := by decide +kernel

theorem test_frame_length_49 : frameCommand 0 [0xA5, 0x02, 0x01, 0x30, 0x30, 49] = some .frameLengthAbandon := by decide +kernel

theorem test_no_table_word (nbits w : Nat) : decodeTableWord nbits w = none := rfl

/-! ### The manual's worked examples -/

/-- R31: working setpoint 20, band 50, temperature -15: 45 steps. -/
theorem test_request_example : requestOf 20 (-15) 50 = 45 := by decide

/-- Section 2.6: zone 3 with 24 steps is on from 750 ms to the end and from 0 to 125 ms. -/
theorem test_window_wraps : inWindow 3 24 5999 = false ∧ inWindow 3 24 6000 = true ∧ inWindow 3 24 7999 = true
    ∧ inWindow 3 24 0 = true ∧ inWindow 3 24 999 = true ∧ inWindow 3 24 1000 = false := by decide

/-- R41: zone 1 with 22 steps runs from 250 ms to 593.75 ms. -/
theorem test_window_zone_1 : inWindow 1 22 1999 = false ∧ inWindow 1 22 2000 = true ∧ inWindow 1 22 4749 = true
    ∧ inWindow 1 22 4750 = false := by decide

/-- Section 7.3: D_base 5, step 50, D_max 20, basis -234 gives 9; -550 gives 16; with step 10 the cap 20. -/
theorem test_debounce_examples :
    debounceCount { KeypadRecord.factory with dMax := 20 } (some (-234)) = 9
    ∧ debounceCount { KeypadRecord.factory with dMax := 20 } (some (-550)) = 16
    ∧ debounceCount { KeypadRecord.factory with dMax := 20, step := 10 } (some (-550)) = 20 := by decide

/-- Section 11.2: plane mask 0x0F00, foreground 0x0500, STIPPLE 0x0300 sets output 8 and clears output 9. -/
theorem test_stipple_example :
    (after (.writeOutputs 0 1 0x0300)
      { run with outs := { run.outs with planeMask := 0x0F00, foreground := 0x0500, hostWord := 0xF200 } }).outs.hostWord
      = 0xF100 := by decide +kernel

/-- The window of section 9.1: base 0x3000, mask 0x003F, module 7, reg_base 200. -/
def windowed : State :=
  { run with relay := { run.relay with
      windows := vset run.relay.windows 2
        { valid := true, base := 0x3000, mask := 0x003F, module := 7, regBase := 200, access := .readWrite } } }

/-- Section 9.1: address 0x3030 reaches register 248 of module 7. -/
theorem test_window_example :
    (after (.read 1 0x3030 2) windowed).relay.link.map (fun l => (l.request.module, l.request.register)) = some (7, 248) := by
  decide +kernel

/-- Section 9.1: address 0x3038 would reach 256 and is refused. -/
theorem test_window_past_255 : firstStatus (after (.read 1 0x3038 2) windowed) = some .noTarget := by decide +kernel

/-- Section 5.3: ABOVE 300 with hysteresis 50. -/
def ruleExample : SampleRule :=
  { channel := 0, condition := 15, compare := .above, threshold := 300, hysteresis := 50, stale := .hold, edge := .none
    level := .cutZone 1, report := false }

/-- The rule at set 0, way 0. -/
def ruled : State := { run with acts := { run.acts with entries := vset run.acts.entries 0 (some (.sample ruleExample)) } }

/-- Section 5.3: trips at 301, holds at 260, clears at 250. -/
theorem test_rule_example :
    (evaluateSlot 0 300 ruled 0).acts.rules[0].tripped = false
    ∧ (evaluateSlot 0 301 ruled 0).acts.rules[0].tripped = true
    ∧ (evaluateSlot 0 260 (evaluateSlot 0 301 ruled 0) 0).acts.rules[0].tripped = true
    ∧ (evaluateSlot 0 250 (evaluateSlot 0 301 ruled 0) 0).acts.rules[0].tripped = false := by decide +kernel


/-! ### Commands -/

/-- R72: a set bit wins over a clear bit. -/
theorem test_set_flags : (after (.setFlags 0 0x03 0x06) { run with flags := 0x4 }).flags = 0x3 := by decide +kernel

/-- R72: a mask bit above the low four refuses and changes nothing. -/
theorem test_set_flags_high_bit : firstStatus (after (.setFlags 0 0x10 0) run) = some .badRequest := by decide +kernel

/-- R96: a heartbeat in BOOT enters RUN. -/
theorem test_heartbeat_boot : (after (.heartbeat 1 9) (inHost .boot)).hpc.host = .run := by decide +kernel

/-- R95: a repeated sequence is refused. -/
theorem test_heartbeat_repeat :
    firstStatus (after (.heartbeat 1 9) { run with hpc := { run.hpc with lastSeq := some 9 } }) = some .badRequest := by
  decide +kernel

/-- R107: the request is pending and the host state stays. -/
theorem test_host_restart : (after (.hostRestart 1 1) run).hpc.pendingRestart = some .hard
    ∧ (after (.hostRestart 1 1) run).hpc.host = .run := by decide +kernel

/-- R108: the hard restart is made when its reply has left. -/
theorem test_host_restart_made : (after .transmitComplete (after (.hostRestart 1 1) run)).hpc.host = .powerCycle := by
  decide +kernel

/-- R17, R156: with an empty relay, rail-off begins at once and asserts the reset. -/
theorem test_shutdown : (after (.shutdown 1 0) run).hpc.host = .drain ∧ (after (.shutdown 1 0) run).hpc.railOff = true
    ∧ (after (.shutdown 1 0) run).hpc.suppress = true := by decide +kernel

/-- R20: the highest rail is released first. -/
theorem test_off_settle : (after .offSettleExpiry (after (.shutdown 1 0) run)).hpc.enables = #v[true, true, false] := by
  decide +kernel

/-- R2: with auto_start and an empty gate the load of factory tables goes through to RAILS. -/
theorem test_image_load : (after .imageLoadComplete State.reset).hpc.host = .rails
    ∧ (after .imageLoadComplete State.reset).hpc.enables = #v[true, false, false] := by decide +kernel

/-- R12: power-good starts the settle time of rail 1. -/
theorem test_power_good : (after (.powerGoodArrival 0) (after .imageLoadComplete State.reset)).hpc.railStep.map RailStep.phase
    = some .settle := by decide +kernel

/-- R13: the pg timeout takes the hard-restart decision, which drops the rails. -/
theorem test_pg_timeout : (after .pgTimeoutExpiry (after .imageLoadComplete State.reset)).hpc.host = .powerCycle
    ∧ (after .pgTimeoutExpiry (after .imageLoadComplete State.reset)).errs.flags = 0x2000 := by decide +kernel

/-- R97: the heartbeat timer takes RUN to WARN with one notice. -/
theorem test_heartbeat_timer :
    (after .heartbeatTimerExpiry { run with hpc := { run.hpc with heartbeatTimer := some { start := 0, span := 8 } } }).hpc.host
      = .warn := by decide +kernel

/-- R98, R101: the grace timer escalates to a soft restart. -/
theorem test_grace : (after .graceExpiry { inHost .warn with hpc := { (inHost .warn).hpc with
    graceTimer := some { start := 0, span := 8 } } }).hpc.host = .restart := by decide +kernel

/-- R87: a count of 2 locks ways 0 and 1. -/
theorem test_lock_actions : (after (.lockActions 0 2 1) run).acts.lock = 2 ∧ (after (.lockActions 0 2 1) run).acts.protect = true := by
  decide +kernel

/-- R88: a flush releases the cut of a tripped rule. -/
theorem test_flush_actions : (after (.flushActions 0) (evaluateSlot 0 301 ruled 0)).heat.zones[1].cutDemand = 0
    ∧ firstPayload (after (.flushActions 0) (evaluateSlot 0 301 ruled 0)) = some [1, 0] := by decide +kernel

/-- R26: a budget above 1000 is refused. -/
theorem test_load_budget_range : firstStatus (after (.loadBudget 0 [0, 0, 0, 0, 0, 0, 0x03, 0xE9]) run) = some .badRequest
    ∧ (after (.loadBudget 0 [0, 0, 0, 0, 0, 0, 0x03, 0xE8]) run).heat.budget.run = 1000 := by decide +kernel

/-- R169: a LOAD is refused while a store is in progress. -/
theorem test_load_while_storing : firstStatus (after (.loadBudget 0 [0, 0, 0, 0, 0, 0, 0, 0]) storing) = some .state := by
  decide +kernel

/-- R169: the completion answers DONE with the store's tag. -/
theorem test_store_complete : (after .storeComplete storing).store = .image Image.factory
    ∧ (after .storeComplete storing).panel.replies.head?.map Reply.tag = some 4 := by decide +kernel

/-- R178: COUNTER_SELECT sets the select and zeroes the count. -/
theorem test_counter_select : (after (.counterSelect 0 1 7) run).counters[1] = { select := .heartbeats, count := 0 } := by
  decide +kernel

/-- R127: the KEYPAD record has at least one part; R167: a part beyond the last is refused. -/
theorem test_status_read_outputs : firstStatus (after (.statusReadOutputs 0 0) run) = some .done
    ∧ firstStatus (after (.statusReadOutputs 0 9) run) = some .badRequest := by decide +kernel

/-- R165: the transmitter begins the reply at once. -/
theorem test_reply_begins : (after (.setFlags 0 1 0) run).panel.tx = .reply
    ∧ (after .transmitComplete (after (.setFlags 0 1 0) run)).panel.replies = [] := by decide +kernel

/-- R165: a refusal's reply is begun at once, and the ERROR notice of its recording waits (log 10). -/
theorem test_refusal_begins_reply : (after (.setFlags 0 0x10 0) run).panel.tx = .reply
    ∧ (after (.setFlags 0 0x10 0) run).panel.notices.length = 1 := by decide +kernel

/-- R159: the KEYPAD record's list of 64 position states begins with its number of entries. -/
theorem test_keypad_record_counts : (keypadRecord run)[7]? = some 64 ∧ (keypadRecord run).length = 72 := by decide +kernel

/-- R149: the field timeout answers FIELD_TIMEOUT. -/
theorem test_field_timeout :
    firstStatus (after (.fieldTimeoutExpiry true) (after .cPortRequestEnd (after (.read 1 0x3030 2) windowed)))
      = some .fieldTimeout := by decide +kernel

/-- R29, R28: the next period starts 1000 ms later. -/
theorem test_control_period :
    (after .controlPeriodStart { run with heat := { run.heat with periodStart := some 0 } }).heat.periodStart = some 8000 := by
  decide +kernel

/-- R137: a layer tick ages the entries by 100 ms; R139: CLEAR_LAYERS answers the number removed. -/
def layered : State :=
  { run with keymap := { run.keymap with
      nextTick := some 800
      stack := [{ layer := 1, position := 3, termination := 31, counted := false, count := 0, idle := 0, held := true }] } }

theorem test_layer_tick : (after .layerTick layered).keymap.stack.map StackEntry.idle = [100] := by decide +kernel

/-- The one layer's key is held or released, and its termination code is HOLD_KEY. -/
def holdLayer (held : Bool) : State :=
  { layered with keymap := { layered.keymap with
      stack := layered.keymap.stack.map fun e => { e with termination := 7, held := held } } }

/-- R135, R138: a termination code that is true at the push pops its entry at the next check. -/
theorem test_hold_key_true : (terminationCheck (holdLayer true)).keymap.stack = [] := by decide +kernel

/-- R138: a check ends at a top whose code is false. -/
theorem test_hold_key_false : (terminationCheck (holdLayer false)).keymap.stack.length = 1 := by decide +kernel

/-- Section 8.12: a held shift layer with the code NOT_HOLD_KEY stays while its key is held; its release's check pops it. -/
theorem test_not_hold_key :
    let s := setStack (layered.keymap.stack.map fun e => { e with termination := 23 }) layered
    (terminationCheck s).keymap.stack.length = 1 ∧ (takeRelease 3 false s).keymap.stack = [] := by decide +kernel

theorem test_clear_layers : firstPayload (after (.clearLayers 0) layered) = some [1] := by decide +kernel

/-- R118: with N 5, the fifth closed scan accepts the press. -/
def scanned : State := { run with pad := { run.pad with nextScan := some 0, scanning := true } }

theorem test_scan_complete :
    (scanPosition 9 true true (setPad 9 { PadPosition.initial with state := .closing, count := 3 } scanned)).1.pad.positions[9].state
      = .closing
    ∧ (scanPosition 9 true true (setPad 9 { PadPosition.initial with state := .closing, count := 4 } scanned)).1.pad.positions[9].state
      = .closed := by decide +kernel

/-- R170: power loss during a store leaves a damaged image, which the next power-on reports. -/
theorem test_damaged_image : (after .powerLoss storing).store = .damaged
    ∧ (after .powerOn (after .powerLoss storing)).errs.flags = 0x8000 := by decide +kernel

/-- R168: SUPERVISOR_RESET leaves its DONE reply alone. -/
theorem test_supervisor_reset : (after (.supervisorReset 5) layered).keymap.stack = []
    ∧ (after (.supervisorReset 5) layered).panel.replies.map Reply.tag = [5] := by decide +kernel

/-- A step takes the front command. -/
theorem test_step : (match step { run with pending := [.setFlags 0 1 0, .wakeEdge] } with
    | .next t => (t.flags, t.pending)
    | _ => (0, [])) = (1, [.wakeEdge]) := by decide +kernel

/-! ### Witnesses: for each obligation with hypotheses, states and operands that meet them, clause by clause -/

theorem ready_run : Ready run := by unfold Ready Accepts Calm; decide

theorem ready_storing : Ready storing := by unfold Ready Accepts Calm; decide

theorem ready_boot : Ready (inHost .boot) := by unfold Ready Accepts Calm; decide

theorem ready_drain : Ready (inHost .drain) := by unfold Ready Accepts Calm; decide

/-- The factory tables are in range. -/
theorem factory_valid : Image.factory.Valid := by
  refine ⟨by decide, by decide, by decide, fun k e h => ?_, by decide, by decide, by decide, by decide, by decide,
    by decide +kernel, by decide⟩
  simp [Image.factory] at h

/-- A run state with a command waiting. -/
def waiting : State := { run with pending := [.wakeEdge] }

theorem waiting_tables : TablesInRange waiting := by
  refine ⟨?_, fun _ h => by simp [waiting, run, inHost, State.reset, State.fresh, Store.held] at h,
    fun _ h => by simp [waiting, run, inHost, State.reset, State.fresh, ImageState.captured] at h⟩
  exact (by decide +kernel : captureImage .low waiting = Image.factory) ▸ factory_valid

theorem waiting_steps : ∃ t, step waiting = .next t := ⟨_, rfl⟩

theorem witness_StepTakesTheFrontCommand : waiting.pending = .wakeEdge :: [] := rfl

/-- DRAIN's wait phase, the relay empty: its report stands, as after a SUPERVISOR_RESET. -/
def reporting : State :=
  { inHost .drain with hpc := { (inHost .drain).hpc with railOff := false, drainTimer := some { start := 0, span := 8 } } }

/-- The states below that are not in DRAIN are calm by calm_of_host. -/
theorem not_calm_reporting : ¬ Calm reporting := by unfold Calm; decide

theorem witness_IdleStepAdvancesTimeOrRaisesDueEvent :
    (State.fresh .off Image.factory .empty .factory #v[false, false, false] 0 []).power = .off
    ∧ State.reset.power ≠ .off ∧ State.reset.hpc.host ≠ .drain ∧ timedEvents State.reset = []
    ∧ (reporting.power ≠ .off ∧ reporting.hpc.host = .drain ∧ reporting.hpc.railOff = false ∧ reporting.relay.queue = [])
    ∧ timedEvents { run with hpc := { (inHost .warn).hpc with graceTimer := some { start := 0, span := 8 } }, now := 8 }
        = [.graceExpiry]
    ∧ timedEvents { run with heat := { run.heat with periodStart := some 0 }, now := 8000 } = [.controlPeriodStart] := by
  decide +kernel

theorem witness_EveryCommandCompletes : Instr.wakeEdge ≠ .powerOn ∧ Instr.wakeEdge ≠ .powerLoss ∧ ¬ Calm reporting :=
  ⟨by decide, by decide, not_calm_reporting⟩

/-- R18: with the report standing rail-off begins before the command: the drain timer does not expire, and a fall of
power-good is not watched. -/
theorem test_report_first :
    (after .drainTimerExpiry reporting).now = 0 ∧ (after .drainTimerExpiry reporting).hpc.railOff = true
    ∧ (after (.powerGoodFall 0) reporting).hpc.host = .drain
    ∧ (after .offSettleExpiry reporting).hpc.enables = #v[true, true, false]
    ∧ (after .offSettleExpiry reporting).now = 800 := by decide +kernel

theorem witness_EveryFrameReadsBack :
    (Instr.loadKeypad 5 [4, 5, 5, 50, 0, 0xFF, 1] 9).wellFormed = true
    ∧ (commandFrame (.loadKeypad 5 [4, 5, 5, 50, 0, 0xFF, 1] 9)).isSome = true
    ∧ ∀ tag p o, Instr.loadKeypad 5 [4, 5, 5, 50, 0, 0xFF, 1] 9 = .loadKeypad tag p o → o = 9 :=
  ⟨by decide, by decide +kernel, fun _ _ _ h => by cases h; rfl⟩

theorem witness_EveryLoadPayloadReadsBack :
    SequenceRecord.factory.inRange = true
    ∧ { LadderRecord.factory with earlyWindow := 2500, grace := 60000, hardLimit := 4, retry := 1440 }.inRange = true
    ∧ { ZoneRecord.factory 3 with setpoint := 850, band := 10, fallback := 64, restDuty := 63 }.inRange = true
    ∧ { BudgetRecord.factory with run := 1000 }.inRange = true
    ∧ { ChannelEntry.factory with module := 31, register := 255, staleLimit := 15 }.inRange = true
    ∧ { PollRecord.factory with slow := 60000, fieldTimeout := 2 }.inRange = true
    ∧ (ActionEntry.guard { window := 7, condition := 31, coversRead := true, coversWrite := false }).inRange = true
    ∧ { WindowEntry.factory with module := 31, regBase := 255 }.inRange = true
    ∧ { KeypadRecord.factory with dMax := 63, zone := some 3 }.inRange = true
    ∧ (KeyEntry.layer 3 31 15 5000).inRange = true ∧ layerTimeoutInRange 0 = true := by decide

/-- An action load with a guard rule in its set, and one without an entry at a named way. -/
theorem witness_EveryLoadPayloadReadsBack_actions :
    (∀ e, (some (ActionEntry.guard { window := 7, condition := 31, coversRead := true, coversWrite := false })) = some e →
      e.inRange = true ∧ e.key % 8 = (7 : Fin 8).val)
    ∧ ((none : Option ActionEntry) = none → WaySelector.way 2 ≠ .any) :=
  ⟨fun e h => by cases h; decide, fun _ => by decide⟩

theorem witness_NoPayloadReadsOutOfRange :
    (readSequence (sequenceBytes SequenceRecord.factory)).isSome = true
    ∧ (readLadder (ladderBytes LadderRecord.factory)).isSome = true
    ∧ (readZone (zoneBytes { zone := 3, record := ZoneRecord.factory 3 })).isSome = true
    ∧ (readBudget (budgetBytes BudgetRecord.factory)).isSome = true
    ∧ (readChannel (channelBytes { channel := 15, entry := ChannelEntry.factory })).isSome = true
    ∧ (readPoll (pollBytes PollRecord.factory)).isSome = true
    ∧ (readAction (actionBytes { set := 0, selector := .any, entry := some (.sample ruleExample) })).isSome = true
    ∧ (readAction (actionBytes { set := 0, selector := .way 3, entry := none })).isSome = true
    ∧ (readWindow (windowBytes { window := 7, entry := WindowEntry.factory })).isSome = true
    ∧ (readKeypad (keypadBytes KeypadRecord.factory)).isSome = true
    ∧ (readKeymapEntry (keymapBytes { layer := 3, position := 63, entry := .plain 255 })).isSome = true
    ∧ (readKeymapSettings (keymapSettingsBytes 0)).isSome = true := by decide +kernel

theorem witness_BadFramesAreRecognised :
    ([] : List Byte).length ≤ 48 ∧ 48 < (49 : Byte).toNat ∧ (0 : Word) ≠ crc16 [0x02, 0x01, 0x30, 0x30, 0x01, 0x04]
    ∧ 16 ≤ (0x10 : Byte).toNat ∧ (0x38 : Byte) ≠ 0x01 ∧ (0x38 : Byte) ≠ 0x02 ∧ word16 [0, 1] 0 ≠ 0
    ∧ readLengthFits 17 = false ∧ readLengthFits 0 = false ∧ 16 < (List.replicate 17 (0 : Byte)).length := by decide +kernel

/-- LOAD_BUDGET with 7 bytes, an op code outside Table 10-3, and a HOST read with an argument, are malformed. -/
theorem test_malformed_lengths :
    frameCommand 0 (0xA5 :: withCheck [0x01, 0x21, 0, 0, 7, 0, 0, 0, 0, 0, 0, 0]) = some (.malformedFrame 1 0x21 0)
    ∧ frameCommand 0 (0xA5 :: withCheck [0x01, 0x27, 0, 0, 0]) = some (.malformedFrame 1 0x27 0)
    ∧ frameCommand 0 (0xA5 :: withCheck [0x01, 0x50, 0, 0, 3, 0x01, 0, 0]) = some (.malformedFrame 1 0x50 0) := by
  decide +kernel

theorem witness_StepKeepsTheAllocationLaw : ZonesInRange waiting ∧ AllocationLaw waiting := by
  refine ⟨fun z => ?_, by decide +kernel, fun z => ?_⟩ <;> fin_cases z <;>
    simp [waiting, run, inHost, State.reset, State.fresh, Heat.initial, quad, ZoneState.initial]

theorem witness_StepKeepsTheQueueLaws :
    SupplyLaw waiting ∧ QueueLaw waiting ∧ SilenceLaw waiting ∧ TransmitLaw waiting ∧ LinkLaw waiting := by
  refine ⟨by unfold SupplyLaw; decide, by unfold QueueLaw; decide, by unfold SilenceLaw; decide, by unfold TransmitLaw; decide,
    fun l h => ?_⟩
  simp [waiting, run, inHost, State.reset, State.fresh, Relay.initial] at h

theorem witness_StepKeepsTheHostLines : LinesLaw waiting ∧ PendingLaw waiting := by
  refine ⟨by unfold LinesLaw; decide, by unfold PendingLaw; decide⟩

theorem witness_StepKeepsTheLadderLaw : LadderLaw waiting := by unfold LadderLaw; decide

theorem witness_StepKeepsTheRuleCounts : CountLaw waiting := by
  refine ⟨by decide +kernel, by decide +kernel, by decide +kernel, fun i h => ?_⟩
  simp [waiting, run, inHost, State.reset, State.fresh, Acts.initial, RuleState.clear] at h

theorem witness_StepKeepsTheKeymapLaw : KeymapLaw waiting := by unfold KeymapLaw; decide +kernel

theorem witness_StepKeepsTheErrorLaw : ErrorLaw waiting ∧ CounterLaw waiting := by
  refine ⟨⟨fun d h => ?_, by decide⟩, by unfold CounterLaw; decide⟩
  simp [waiting, run, inHost, State.reset, State.fresh, Errors.initial] at h

/-- Channel 0 is a valid temperature channel with a good sample of -20.0 °C, current and missing. -/
def sampled (missing : Bool) : State :=
  { run with
    probe := { run.probe with
      table := vset run.probe.table 0 { ChannelEntry.factory with valid := true }
      chans := vset run.probe.chans 0
        { ChannelState.initial with poll := .waiting, due := some 16000, last := some { value := -200, moment := 0 }, missing := missing } }
    pad := { run.pad with record := { run.pad.record with zone := some 0 } } }

theorem witness_DebounceCountFollowsTheColdRule :
    1 ≤ KeypadRecord.factory.step ∧ DebounceLaw waiting
    ∧ (sampled false).pad.record.zone = some 0 ∧ (zoneReading (sampled false) 0).1 ≠ .none
    ∧ (zoneReading { sampled false with probe := run.probe } 0).1 = .none ∧ run.pad.record.zone = none := by
  unfold DebounceLaw; decide +kernel

theorem witness_LoadsAreRefused :
    storing.imageState.isStoring = true ∧ run.imageState.isStoring = false
    ∧ (readSequence (List.replicate 24 0)).isSome = false ∧ (readLadder (List.replicate 19 0)).isSome = false
    ∧ (readZone (List.replicate 25 0)).isSome = false ∧ (readBudget (List.replicate 8 0xFF)).isSome = false
    ∧ (readChannel (List.replicate 8 0)).isSome = false ∧ (readPoll (List.replicate 7 0)).isSome = false
    ∧ (readAction (List.replicate 17 0xFF)).isSome = false ∧ (readWindow (List.replicate 9 0)).isSome = false
    ∧ (readKeypad (List.replicate 7 0)).isSome = false ∧ (readKeymapEntry (List.replicate 9 0xFF)).isSome = false
    ∧ (readKeymapSettings (List.replicate 3 0xFF)).isSome = false := by decide +kernel

/-- The run budget in force is 10. -/
def budgeted10 : State := { run with heat := { run.heat with budget := { BudgetRecord.factory with run := 10 } } }

theorem witness_LoadsReplaceTheirTables :
    budgeted10.imageState.isStoring = false ∧ { BudgetRecord.factory with run := 10 }.inRange = true
    ∧ budgeted10.heat.budget.inForce budgeted10.hpc.host ≤ { BudgetRecord.factory with run := 10 }.inForce budgeted10.hpc.host
    ∧ { BudgetRecord.factory with run := 9 }.inRange = true
    ∧ { BudgetRecord.factory with run := 9 }.inForce budgeted10.hpc.host < budgeted10.heat.budget.inForce budgeted10.hpc.host
    ∧ layerTimeoutInRange 60000 = true ∧ SequenceRecord.factory.inRange = true := by decide +kernel

/-- Zone 0 is enabled with priority 0. -/
def zoned : State :=
  { run with heat := { run.heat with records := vset run.heat.records 0 { ZoneRecord.factory 0 with enable := true } } }

theorem witness_LoadZone :
    ({ ZoneRecord.factory 1 with enable := true, priority := 0 }.inRange = true
      ∧ (1 : Zone) ≠ 0 ∧ zoned.heat.records[(0 : Zone)].enable = true ∧ zoned.heat.records[(0 : Zone)].priority = 0)
    ∧ ¬ (∃ z : Zone, z ≠ 0 ∧ zoned.heat.records[z].enable = true ∧ zoned.heat.records[z].priority = 0)
    ∧ zoned.imageState.isStoring = false := by decide +kernel

theorem witness_LoadChannel :
    run.probe.table[(0 : Channel)].valid = false
    ∧ (sampled true).probe.table[(0 : Channel)].valid = true ∧ (sampled true).probe.chans[(0 : Channel)].missing = true
    ∧ (sampled false).probe.chans[(0 : Channel)].missing = false ∧ 0 < ChannelEntry.factory.staleLimit
    ∧ { ChannelEntry.factory with valid := true, staleLimit := 1 }.inRange = true
    ∧ 1 ≤ { ChannelState.initial with misses := 1 }.misses ∧ run.imageState.isStoring = false := by decide +kernel

/-- Ways 0 to 3 of set 0 hold entries, way 0 is locked. -/
def fullSet : State :=
  { run with acts := { run.acts with
      lock := 1
      entries := vset (vset (vset (vset run.acts.entries 0 (some (.sample ruleExample))) 1 (some (.sample ruleExample)))
        2 (some (.sample ruleExample))) 3 (some (.sample ruleExample)) } }

theorem witness_LoadAction :
    (ActionEntry.sample ruleExample).inRange = true ∧ (ActionEntry.sample ruleExample).key % 8 = 0
    ∧ (0 : Fin 4) < fullSet.acts.lock ∧ fullSet.acts.lock ≤ (1 : Fin 4)
    ∧ (∀ w, ¬ (fullSet.acts.lock ≤ w ∧ fullSet.acts.entries[slotOf 0 w] = none))
    ∧ (run.acts.lock ≤ (0 : Fin 4) ∧ run.acts.entries[slotOf 0 0] = none) ∧ (∀ v : Fin 4, ¬ v < 0) := by decide +kernel

/-- The rule, tripping at a missing episode with a RULE notice. -/
def notifying : SampleRule :=
  { ruleExample with
    stale := .trip
    edge := .notify
    level := .none }

/-- R165, R77: the RULE notice of a rule loaded on a missing channel is begun before the DONE reply is placed. -/
theorem test_notice_begins_first :
    (after (.loadAction 0 (actionBytes ⟨.any, 0, some (.sample notifying)⟩)) (sampled true)).panel.tx = .notice := by
  decide +kernel

theorem witness_LoadKeypad :
    run.pad.record.ghostMasking = true ∧ KeypadRecord.factory.inRange = true
    ∧ { KeypadRecord.factory with ghostMasking := false }.inRange = true
    ∧ (setPad 9 { PadPosition.initial with state := .masked } run).pad.positions[(9 : Position)].state = .masked
    ∧ (setPad 9 { PadPosition.initial with state := .opening, previous := some .masked } run).pad.positions[(9 : Position)].previous
        = some .masked := by decide +kernel

theorem witness_SetFlags : Ready run ∧ (0x0F : Byte).toNat < 16 ∧ 16 ≤ (0x10 : Byte).toNat :=
  ⟨ready_run, by decide, by decide⟩

theorem witness_OutputWrites : Ready storing ∧ 2 ≤ (2 : Byte).toNat ∧ (1 : Byte).toNat ≤ 1 :=
  ⟨ready_storing, by decide, by decide⟩

/-- Output 5 is forced on, output 4 off, the indicator enabled. -/
def forced : State :=
  { layered with outs := { layered.outs with
      indicator := true, forceOn := vset layered.outs.forceOn 5 1, forceOff := vset layered.outs.forceOff 4 1 } }

theorem witness_EffectiveOutput :
    0 < forced.outs.forceOn[(5 : Fin 16)]
    ∧ (forced.outs.forceOn[(4 : Fin 16)] = 0 ∧ 0 < forced.outs.forceOff[(4 : Fin 16)])
    ∧ (forced.outs.forceOn[(6 : Fin 16)] = 0 ∧ forced.outs.forceOff[(6 : Fin 16)] = 0 ∧ forced.outs.indicator = true)
    ∧ (forced.outs.forceOn[(7 : Fin 16)] = 0 ∧ forced.outs.forceOff[(7 : Fin 16)] = 0)
    ∧ (forced.outs.forceOn[(8 : Fin 16)] = 0 ∧ forced.outs.forceOff[(8 : Fin 16)] = 0) := by decide +kernel

/-- The notice queue is full. -/
def noticed : State := { run with panel := { run.panel with notices := List.replicate 16 (.sample 0 0 0 true) } }

/-- A detail is frozen. -/
def frozen : State :=
  { noticed with errs := { noticed.errs with flags := 2, detail := some { cls := .denied, time := 0, fields := {} } } }

theorem witness_ErrorsFreeze :
    { run.errs with ignore := 2 }.ignore.getLsbD ErrorClass.denied.bit = true
    ∧ (run.errs.ignore.getLsbD ErrorClass.denied.bit = false ∧ run.errs.detail = none) ∧ frozen.errs.detail ≠ none
    ∧ State.reset.hpc.host.delivers = false ∧ run.panel.notices.length < 16
    ∧ (noticed.hpc.host.delivers = true ∧ 16 ≤ noticed.panel.notices.length ∧ noticed.errs.detail = none
      ∧ noticed.errs.ignore.getLsbD 11 = false)
    ∧ { run.errs with ignore := 0x0800 }.ignore.getLsbD 11 = true := by decide +kernel

theorem witness_ErrorClearAndSetIgnore :
    Ready run ∧ storing.imageState.isStoring = true ∧ run.imageState.isStoring = false :=
  ⟨ready_run, by decide, by decide⟩

theorem witness_Counters : Ready run ∧ 2 ≤ (2 : Byte).toNat ∧ 11 ≤ (11 : Byte).toNat := ⟨ready_run, by decide, by decide⟩

theorem witness_LockActions :
    (Ready run ∧ Ready storing)
    ∧ (¬ (1 ≤ (0 : Byte).toNat ∧ (0 : Byte).toNat ≤ 3 ∧ (0 : Byte).toNat ≤ 1))
    ∧ ({ fullSet.acts with protect := true }.protect = true ∧ (3 : Byte).toNat ≠ fullSet.acts.lock.val)
    ∧ ({ fullSet.acts with lock := 2 }.protect = false ∧ (1 : Byte).toNat < { fullSet.acts with lock := 2 }.lock.val)
    ∧ fullSet.acts.lock.val ≤ (1 : Byte).toNat :=
  ⟨⟨ready_run, ready_storing⟩, by decide, by decide, by decide, by decide⟩

theorem witness_FlushActions : Ready run ∧ Ready storing ∧ storing.imageState.isStoring = true
    ∧ run.imageState.isStoring = false := ⟨ready_run, ready_storing, by decide, by decide⟩

/-- The rule of `ruled` with a condition that never holds. -/
def neverRule : SampleRule := { ruleExample with condition := 31, stale := .trip }

theorem witness_SampleRules :
    ruled.acts.entries[(0 : Slot)] = some (.sample ruleExample)
    ∧ condition ruled 15 = true ∧ condition ruled 31 = false
    ∧ ruled.acts.rules[(0 : Slot)].tripped = false
    ∧ (evaluateSlot 0 301 ruled 0).acts.rules[(0 : Slot)].tripped = true
    ∧ ruleExample.threshold < 301 ∧ (250 : Int) ≤ ruleExample.threshold - ruleExample.hysteresis
    ∧ ruleExample.stale = .hold ∧ neverRule.stale = .trip ∧ (1 : Channel) ≠ ruleExample.channel := by decide +kernel

/-- A LAYER press whose arm delay of 100 ms runs. -/
def armedPosition : KeyPosition :=
  { KeyPosition.initial with
    resolution := some (.layer, 0)
    arm := some { timer := { start := 0, span := 800 }, layer := 2, termination := 31, count := 0 } }

/-- A stack entry without a termination of its own. -/
def heldEntry : StackEntry :=
  { layer := 1, position := 0, termination := 31, counted := false, count := 0, idle := 0, held := false }

/-- Position 5 has an arm delay running, over a stack. -/
def armed (stack : List StackEntry) : State :=
  { layered with keymap := { layered.keymap with
      stack := stack
      positions := vset layered.keymap.positions 5 armedPosition } }

theorem witness_LayerEvents :
    Ready run ∧ (layered.hpc.host ≠ .drain ∧ ∀ l, (armed l).hpc.host ≠ .drain) ∧ run.keymap.nextTick = none ∧ layered.keymap.nextTick = some 800
    ∧ (armed []).keymap.positions[(4 : Position)].arm = none ∧ (armed []).keymap.positions[(5 : Position)].arm.isSome = true
    ∧ (armed []).keymap.stack.length < 6
    ∧ 6 ≤ (armed (List.replicate 6 heldEntry)).keymap.stack.length :=
  ⟨ready_run, ⟨by decide, fun _ => by simp [armed, layered, run, inHost]⟩, by decide +kernel, by decide +kernel, by decide +kernel,
    by decide +kernel, by decide +kernel, by decide +kernel⟩

/-- A key map with an entry of every kind in layer 0. -/
def mapped : State :=
  { run with keymap := { run.keymap with
      entries := vset (vset (vset (vset (vset (vset (vset run.keymap.entries 0 (.plain 7)) 1 (.layer 2 31 0 100)) 2 (.layer 2 31 0 0))
        3 .clearOne) 4 .clearAll) 5 (.service .wake 15)) 6 .transparent } }

theorem witness_Presses :
    resolveKey mapped 0 = (.plain 7, 0) ∧ resolveKey mapped 1 = (.layer 2 31 0 100, 0) ∧ resolveKey mapped 2 = (.layer 2 31 0 0, 0)
    ∧ resolveKey mapped 3 = (.clearOne, 0) ∧ resolveKey mapped 4 = (.clearAll, 0)
    ∧ resolveKey mapped 5 = (.service .wake 15, 0) ∧ resolveKey mapped 6 = (.none, 0) ∧ resolveKey mapped 7 = (.none, 0)
    ∧ mapped.hpc.host.keysReported = true ∧ (inHost .drain).hpc.host.keysReported = false
    ∧ condition mapped 15 = true ∧ condition mapped 31 = false
    ∧ ((inHost .standby).hpc.host = .standby ∧ (inHost .standby).power = .running ∧ State.reset.power ≠ .running)
    ∧ (inHost .lockout).hpc.host = .lockout ∧ mapped.hpc.host = .run := by decide +kernel

theorem witness_Releases :
    (takePress 0 true mapped).keymap.positions[(0 : Position)].code = some 7
    ∧ (takePress 0 true mapped).keymap.positions[(0 : Position)].resolution = some (.plain, 0)
    ∧ (takePress 0 true mapped).keymap.positions[(0 : Position)].reported = true
    ∧ (takePress 0 true { mapped with hpc := (inHost .drain).hpc }).keymap.positions[(0 : Position)].reported = false
    ∧ (takePress 1 true mapped).keymap.positions[(1 : Position)].resolution = some (.layer, 0)
    ∧ (∀ l : Fin 4, mapped.keymap.positions[(9 : Position)].resolution ≠ some (.plain, l)
      ∧ mapped.keymap.positions[(9 : Position)].resolution ≠ some (.layer, l)) := by decide +kernel

/-- A ladder with an early window of 100 ms, the last heartbeat at 0 with sequence 7. -/
def beating (h : HostState) (now : Nat) : State :=
  { inHost h with
    now := now
    hpc := { (inHost h).hpc with
      ladder := { LadderRecord.factory with earlyWindow := 100 }, beat := some { moment := 0, period := 5000 }, lastSeq := some 7 } }

theorem witness_Heartbeat :
    Ready (inHost .drain) ∧ Ready (inHost .boot)
    ∧ (beating .run 799).hpc.beat.any (fun b => (beating .run 799).now - b.moment < ms 100) = true
    ∧ (beating .run 800).hpc.beat.any (fun b => (beating .run 800).now - b.moment < ms 100) = false
    ∧ (beating .run 800).hpc.lastSeq = some 7 ∧ (beating .warn 800).hpc.lastSeq ≠ some 8
    ∧ (inHost .boot).heat.budget.inrush ≤ (inHost .boot).heat.budget.run
    ∧ { BudgetRecord.factory with inrush := 1 }.run < { BudgetRecord.factory with inrush := 1 }.inrush :=
  ⟨ready_drain, ready_boot, by decide, by decide, by decide, by decide, by decide, by decide⟩

theorem witness_HostRestart :
    Ready run ∧ Ready (inHost .drain) ∧ run.hpc.pendingRestart = none
    ∧ (after (.hostRestart 1 0) run).hpc.pendingRestart ≠ none ∧ 2 ≤ (2 : Byte).toNat :=
  ⟨ready_run, ready_drain, by decide, by decide +kernel, by decide⟩

theorem witness_Transmitter :
    (run.hpc.host ≠ .drain ∧ (startTransmit noticed).hpc.host ≠ .drain ∧ (after (.hostRestart 1 0) run).hpc.host ≠ .drain
      ∧ (after (.hostRestart 1 1) run).hpc.host ≠ .drain ∧ (after (.setFlags 0 1 0) run).hpc.host ≠ .drain)
    ∧ State.reset.hpc.host.delivers = false
    ∧ ((after (.setFlags 0 1 0) run).panel.tx = .reply ∧ (after (.setFlags 0 1 0) run).panel.replies ≠ [])
    ∧ (noticed.panel.tx = .idle ∧ noticed.panel.replies = [] ∧ noticed.panel.notices ≠ [])
    ∧ (startTransmit noticed).panel.tx = .notice
    ∧ (after (.hostRestart 1 0) run).panel.replies.head?.any Reply.restart = true
    ∧ (after (.hostRestart 1 0) run).hpc.pendingRestart = some .soft
    ∧ (after (.hostRestart 1 1) run).hpc.pendingRestart = some .hard := by decide +kernel

/-- A running timer of 1 ms. -/
def short : Timer := { start := 0, span := 8 }

theorem witness_SoftRestart :
    run.hpc.host.running = true ∧ run.hpc.softCount < run.hpc.ladder.maxSoft
    ∧ { (inHost .boot).hpc with bootTimer := some short }.bootTimer = some short
    ∧ { (inHost .warn).hpc with graceTimer := some short }.graceTimer = some short ∧ State.reset.hpc.host.running = false := by
  decide

theorem witness_HardDecision :
    run.hpc.hardList.length ≤ run.hpc.ladder.hardLimit ∧ 1 ≤ run.hpc.ladder.hardLimit
    ∧ run.hpc.ladder.maxSoft ≤ { run.hpc with softCount := 2 }.softCount
    ∧ { run.hpc with hardList := [0, 0, 0] }.hardList.length ≤ run.hpc.ladder.hardLimit := by decide

theorem witness_RailFaults :
    State.reset.hpc.host ≠ .drain
    ∧ (after .imageLoadComplete State.reset).hpc.host = .rails
    ∧ (after .imageLoadComplete State.reset).hpc.railStep.map RailStep.phase = some .waitPg
    ∧ (run.hpc.enables[(2 : Rail)] = true ∧ run.hpc.up[(2 : Rail)] = true ∧ run.hpc.host = .run)
    ∧ State.reset.hpc.enables[(2 : Rail)] = false := by decide +kernel

theorem witness_HostTimers :
    { run.hpc with heartbeatTimer := some short }.heartbeatTimer = some short ∧ run.hpc.ladder.grace ≠ 0
    ∧ { LadderRecord.factory with grace := 0 }.inRange = true
    ∧ { (inHost .restart).hpc with pulseTimer := some short }.host = .restart
    ∧ { (inHost .powerCycle).hpc with powerOffTimer := some short }.host = .powerCycle
    ∧ { (inHost .lockout).hpc with retryTimer := some short }.host = .lockout
    ∧ (run.hpc.host = .run ∧ { run.hpc with stableTimer := some short }.stableTimer = some short) := by decide

theorem witness_Shutdown :
    Ready (inHost .drain) ∧ Ready windowed ∧ 2 ≤ (2 : Byte).toNat
    ∧ ((after (.read 1 0x3030 2) windowed).relay.queue ≠ [] ∧ (after (.read 1 0x3030 2) windowed).hpc.host = .run)
    ∧ (run.relay.queue = [] ∧ run.hpc.host = .run)
    ∧ (after (.shutdown 0 1) (after (.read 1 0x3030 2) windowed)).hpc.drainTimer.isSome = true
    ∧ (after (.shutdown 0 1) (after (.read 1 0x3030 2) windowed)).relay.queue ≠ []
    ∧ ((after (.shutdown 0 1) run).hpc.offSettleTimer.isSome = true ∧ (after (.shutdown 0 1) run).hpc.railOff = true)
    ∧ (after (.shutdown 0 1) run).hpc.enables = #v[true, true, true]
    ∧ (after .offSettleExpiry (after .offSettleExpiry (after (.shutdown 0 1) run))).hpc.enables = #v[true, false, false] :=
  ⟨ready_drain, by unfold Ready Accepts Calm; decide, by decide, by decide +kernel, by decide, by decide +kernel, by decide +kernel,
    by decide +kernel, by decide +kernel, by decide +kernel⟩

/-- Zone 0 is gated and its channel has no sample. -/
def gated (h : HostState) : State :=
  { inHost h with
    hpc := { (inHost h).hpc with preheatTimer := some short, soakTimer := some short }
    heat := { run.heat with records := vset run.heat.records 0 { ZoneRecord.factory 0 with gateMask := true } } }

theorem witness_Gate :
    ((gated .preheat).heat.records[(0 : Zone)].gateMask = true ∧ gateValue (gated .preheat) 0 = none)
    ∧ (∀ z : Zone, (inHost .preheat).heat.records[z].gateMask = false)
    ∧ (inHost .preheat).hpc.sequence.soakTime = 0 ∧ { SequenceRecord.factory with soakTime := 3600 }.inRange = true
    ∧ (gated .soak).hpc.soakTimer = some short ∧ (gated .soak).hpc.sequence.startWithoutProbe = false
    ∧ (inHost .standby).hpc.host.keepWarm = true ∧ (inHost .standby).power = .running
    ∧ (State.reset.power ≠ .running ∧ State.reset.hpc.host ≠ .drain)
    ∧ (inHost .lockout).hpc.host = .lockout ∧ run.hpc.host ≠ .lockout := by decide +kernel

/-- The settle time of rail 1, or of rail 3, runs. -/
def settling (k : Rail) : State :=
  { inHost .rails with hpc := { (inHost .rails).hpc with
      maskInUse := #v[true, false, true], railStep := some { rail := k, phase := .settle, timer := short } } }

theorem witness_RailSteps :
    (inHost .soak).hpc.sequence.railMask[(0 : Rail)] = true ∧ (∀ j : Rail, ¬ j < 0)
    ∧ (inHost .rails).hpc.powerGood[(0 : Rail)] = false ∧ (after (.powerGoodArrival 0) (inHost .rails)).hpc.powerGood[(0 : Rail)] = true
    ∧ (after .imageLoadComplete State.reset).hpc.railStep.map RailStep.rail = some 0
    ∧ ((inHost .rails).hpc.railStep = none ∧ (inHost .rails).hpc.host ≠ .drain)
    ∧ ((settling 0).hpc.maskInUse[(2 : Rail)] = true ∧ ∀ j : Rail, 0 < j → j < 2 → (settling 0).hpc.maskInUse[j] = false)
    ∧ (∀ k : Rail, 2 < k → (settling 2).hpc.maskInUse[k] = false) := by decide +kernel

theorem witness_ImageStoreAndPower :
    Ready storing ∧ Ready run ∧ 2 ≤ (2 : Byte).toNat ∧ storing.imageState.captured.isSome = true
    ∧ storeClaim storing = some 4 ∧ storeClaim { storing with imageState := storing.imageState.unclaim } = none
    ∧ run.imageState.captured = none ∧ { run with store := .image Image.factory }.store = .image Image.factory
    ∧ run.store = .empty ∧ (run.power ≠ .loading ∧ run.hpc.host ≠ .drain ∧ storing.hpc.host ≠ .drain)
    ∧ (State.reset.power = .loading ∧ State.reset.hpc.host = .standby ∧ State.reset.relay.queue = []
      ∧ State.reset.relay.link = none)
    ∧ (sampled false).probe.table[(0 : Channel)].valid = true ∧ State.reset.probe.table[(0 : Channel)].valid = false :=
  ⟨ready_storing, ready_run, by decide, rfl, rfl, rfl, rfl, rfl, rfl, by decide, by decide, by decide, by decide⟩

/-- DRAIN's wait phase with one relayed command in flight. -/
def draining : State := after (.shutdown 0 1) (after (.read 1 0x3030 2) windowed)

/-- R2, R168: SUPERVISOR_RESET leaves the Host Power Controller as it stands in DRAIN's wait phase too. -/
theorem test_reset_in_drain : (after (.supervisorReset 2) draining).hpc = draining.hpc := by decide +kernel

/-- R155, R18: the relay it emptied reports so, and the HPC begins rail-off upon the report, no time having passed. -/
theorem test_report_after_reset :
    relayReportsEmpty draining = false ∧ relayReportsEmpty (after (.supervisorReset 2) draining) = true
    ∧ (idle (after (.supervisorReset 2) draining)).hpc.railOff = true
    ∧ (idle (after (.supervisorReset 2) draining)).now = draining.now := by decide +kernel

theorem witness_SupervisorReset :
    Ready run ∧ Ready (inHost .drain)
    ∧ ((inHost .drain).panel.replies.any Reply.restart && (inHost .drain).hpc.pendingRestart.isSome) = false
    ∧ (run.panel.replies.any Reply.restart && run.hpc.pendingRestart.isSome) = false
    ∧ ((after (.hostRestart 1 0) run).panel.replies.any Reply.restart
      && (after (.hostRestart 1 0) run).hpc.pendingRestart.isSome) = true :=
  ⟨ready_run, ready_drain, by decide, by decide, by decide +kernel⟩

theorem witness_StatusReads :
    Ready run ∧ (0 : Byte).toNat < max 1 (((outputsRecord run).length + 45) / 46)
    ∧ max 1 (((outputsRecord run).length + 45) / 46) ≤ (255 : Byte).toNat
    ∧ 16 ≤ (16 : Byte).toNat ∧ 8 ≤ (8 : Byte).toNat ∧ 4 ≤ (4 : Byte).toNat ∧ 64 ≤ (64 : Byte).toNat
    ∧ (hostRecord run).length ≤ 11730 :=
  ⟨ready_run, by decide +kernel, by decide +kernel, by decide, by decide, by decide, by decide, by decide +kernel⟩

/-- The reply queue is full. -/
def replyFull : State :=
  { run with panel := { run.panel with replies := List.replicate 12 { tag := 0, address := 0, status := .done, payload := [] } } }

theorem witness_FramesAreChecked :
    Ready run ∧ State.reset.hpc.host.delivers = false ∧ (replyFull.hpc.host.delivers = true ∧ replyFull.hpc.host ≠ .drain)
    ∧ 12 ≤ occupied replyFull
    ∧ frameFields (.loadSequence 3 [1]) = some (3, 0, [1]) ∧ opCode (.loadSequence 3 [1]) = some 0x13
    ∧ (Instr.loadSequence 3 [1]).wellFormed = false :=
  ⟨ready_run, by decide, by decide, by decide, rfl, rfl, rfl⟩

/-- Window 2 of `windowed` with another access and register base, and a guard for it. -/
def guardedWindow (access : Access) (base : Nat) : State :=
  { windowed with
    relay := { windowed.relay with
      windows := vset windowed.relay.windows 2
        { valid := true, base := 0x3000, mask := 0x003F, module := 7, regBase := base, access := access } }
    acts := { windowed.acts with
      entries := vset windowed.acts.entries 8 (some (.guard { window := 2, condition := 15, coversRead := true, coversWrite := false })) } }

theorem witness_TakeChecks :
    Ready windowed ∧ 1 ≤ (16 : Byte).toNat ∧ (16 : Byte).toNat ≤ 16
    ∧ firstStatus (after (.read 0 0x3000 16) (inHost .drain)) = some .state
    ∧ firstStatus (after (.read 0 0x3000 16) run) = some .noTarget
    ∧ firstStatus (after (.read 0 0x3038 16) windowed) = some .noTarget
    ∧ firstStatus (after (.write 0 0x3000 [1]) (guardedWindow .readOnly 0)) = some .denied
    ∧ firstStatus (after (.read 0 0x3000 16) (guardedWindow .readWrite 0)) = some .guarded
    ∧ firstStatus (after (.read 1 0x3000 16) (after (.read 1 0x3000 16) windowed)) = some .tagBusy
    ∧ (after (.read 1 0x3000 16) windowed).relay.queue.length = 1 :=
  ⟨by unfold Ready Accepts Calm; decide, by decide, by decide, by decide +kernel, by decide +kernel, by decide +kernel, by decide +kernel,
    by decide +kernel, by decide +kernel, by decide +kernel⟩

/-- Eight commands are held. -/
def relayFull : State :=
  { windowed with relay := { windowed.relay with queue := ([0, 1, 2, 3, 4, 5, 6, 7] : List Tag).map fun t =>
      { tag := t, op := .read, address := 0x3000, window := 2, module := 7, register := 200, length := 1, data := [] } } }

theorem witness_TakeChecks_full : Ready relayFull ∧ 8 ≤ relayFull.relay.queue.length
    ∧ firstStatus (after (.read 9 0x3000 1) relayFull) = some .queueFull :=
  ⟨by unfold Ready Accepts Calm; decide, by decide, by decide +kernel⟩

/-- A read of 2 bytes is in flight. -/
def reading : State := after (.read 1 0x3030 2) windowed

/-- A channel queued at power-on. -/
def queuedNow : ChannelState := { ChannelState.initial with poll := .queued, due := some 0, joined := some 0 }

/-- A poll of channel 0 is in flight. -/
def polling : State :=
  let s := sampled false
  arbitrate { s with probe := { s.probe with chans := vset s.probe.chans 0 queuedNow } }

theorem witness_RelayedTransactions :
    (run.hpc.host ≠ .drain ∧ reading.hpc.host ≠ .drain ∧ (silenced reading).hpc.host ≠ .drain
      ∧ (after (.write 1 0x3030 [5]) windowed).hpc.host ≠ .drain ∧ (after .cPortRequestEnd reading).hpc.host ≠ .drain)
    ∧ run.relay.link = none ∧ reading.power ≠ .off
    ∧ reading.relay.link.map (fun l => (l.use, l.timeout, l.request.module, l.request.sequence)) = some (.relay, none, 7, 1)
    ∧ reading.relay.queue.map (fun e => (e.op, e.length)) = [(.read, 2)]
    ∧ (after .cPortRequestEnd reading).relay.link.any (fun l => l.timeout.isSome) = true
    ∧ (after (.write 1 0x3030 [5]) windowed).relay.queue.map RelayEntry.op = [.write]
    ∧ (silenced reading).relay.link.map Link.use = some .orphan := by decide +kernel

/-- Three bytes complete no reply; a count of 17 completes one at its count byte, and a reply whose check bytes are wrong at
its end, with failing checks. -/
theorem witness_RelayedTransactions_bytes :
    ([7, 1, 1] : List Byte).length < 4
    ∧ (4 ≤ ([7, 1, 1, 17] : List Byte).length ∧ 16 < (([7, 1, 1, 17] : List Byte).getD 3 0).toNat)
    ∧ (6 ≤ ([7, 1, 1, 0, 0, 0] : List Byte).length ∧ crc16 [7, 1, 1, 0] ≠ word16 [7, 1, 1, 0, 0, 0] 4) := by decide +kernel

/-- A failing check answers the relayed command FIELD_CHECK; for an ORPHAN it only frees the link. -/
theorem test_failing_check : firstStatus (after (.fieldReply [7, 1, 1, 17] true) reading) = some .fieldCheck
    ∧ (after (.fieldReply [7, 1, 1, 17] true) (silenced reading)).relay.link = none
    ∧ (after (.fieldReply [7, 1, 1] true) reading).relay.queue.length = 1 := by decide +kernel

/-- A failing check records FIELD_CHECK, bit 6, but not for a channel already missing (R56). -/
theorem test_failing_check_while_missing :
    (takeResult 0 true .checkFailed (sampled false)).errs.flags = 0x0040
    ∧ (takeResult 0 true .checkFailed (sampled true)).errs = (sampled true).errs
    ∧ (takeResult 0 true .checkFailed (sampled true)).probe.chans[(0 : Channel)].misses = 1 := by decide +kernel

/-- A matching reply with the bytes asked for answers DONE with them. -/
theorem test_field_reply : firstStatus (after (.fieldReply (fieldReplyBytes 7 1 1 [3, 4]) true) reading) = some .done
    ∧ firstPayload (after (.fieldReply (fieldReplyBytes 7 1 1 [3, 4]) true) reading) = some [3, 4] := by decide +kernel

theorem witness_PollResults :
    (polling.hpc.host ≠ .drain ∧ (after .cPortRequestEnd polling).hpc.host ≠ .drain ∧ (sampled false).hpc.host ≠ .drain)
    ∧ polling.power ≠ .off ∧ polling.relay.link.map (fun l => (l.use, l.request.module)) = some (.poll 0 true, 1)
    ∧ (after .cPortRequestEnd polling).relay.link.any (fun l => l.timeout.isSome) = true
    ∧ polling.probe.table[(0 : Channel)].kind = .temperature ∧ { ChannelEntry.factory with kind := .raw }.inRange = true
    ∧ (polling.probe.chans[(0 : Channel)].due.isSome = true ∧ polling.probe.chans[(0 : Channel)].poll = .inFlight)
    ∧ (sampled false).probe.chans[(0 : Channel)].poll = .waiting := by decide +kernel

/-- A poll's good reply: 0x00C8 is 200. -/
theorem test_poll_reply :
    (after (.fieldReply (fieldReplyBytes 1 1 1 [0x00, 0xC8]) true) polling).probe.chans[0].last.map Sample.value = some 200 := by
  decide +kernel

/-- Channels 0 and 1 are queued, channel 0 the head. -/
def twoQueued (party : Party) (now : Nat) : State :=
  { windowed with
    now := now
    probe := { windowed.probe with chans := vset (vset windowed.probe.chans 0 queuedNow) 1 queuedNow }
    relay := { relayFull.relay with lastServed := party } }

theorem witness_Arbiter :
    reading.relay.link ≠ none ∧ (run.relay.queue = [] ∧ ∀ c : Channel, run.probe.chans[c].poll ≠ .queued)
    ∧ (twoQueued .relay 0).relay.lastServed = .relay ∧ (twoQueued .poll 0).relay.lastServed = .poll
    ∧ ms (2000 / 2) ≤ (twoQueued .poll 8000).now - 0
    ∧ (arbitrate (twoQueued .relay 0)).relay.link.map Link.use = some (.poll 0 true)
    ∧ (arbitrate (twoQueued .poll 0)).relay.link.map Link.use = some .relay
    ∧ (arbitrate (twoQueued .poll 8000)).relay.link.map Link.use = some (.poll 0 true)
    ∧ guardHolds (guardedWindow .readWrite 0) 2 .read = true ∧ guardHolds windowed 2 .read = false := by decide +kernel

/-- Zones 0 and 1 are enabled and read current samples; the run budget is `b`. -/
def heating (b : Nat) : State :=
  { sampled false with
    heat := { run.heat with
      periodStart := some 0
      budget := { BudgetRecord.factory with run := b }
      records := vset (vset run.heat.records 0 { ZoneRecord.factory 0 with enable := true, setpoint := -150, maxOn := 1 })
        1 { ZoneRecord.factory 1 with enable := true, channel := 0, setpoint := 0, fallback := 9 } } }

/-- Zone 0 asks 32 steps of 1.00 A and zone 1 64: with 0.60 A, 6400 into 3840 scales to 12 and 25 and leaves 140, a step to
zone 0 (R31, R34, R35, by hand: 32·3840/9600 = 12.8, 64·3840/9600 = 25.6, 3840 - 3700 = 140). -/
theorem test_allocation : (after .controlPeriodStart (heating 60)).heat.zones.map ZoneState.request = #v[32, 64, 0, 0]
    ∧ (after .controlPeriodStart (heating 60)).heat.zones.map ZoneState.grant = #v[13, 25, 0, 0]
    ∧ (after .controlPeriodStart (heating 60)).heat.limited = true := by decide +kernel

theorem witness_ControlPeriods :
    (run.hpc.host ≠ .drain ∧ (heating 60).hpc.host ≠ .drain ∧ (heating 1000).hpc.host ≠ .drain)
    ∧ run.heat.periodStart = none ∧ (heating 60).heat.periodStart = some 0
    ∧ (heating 60).probe.chans[(0 : Channel)].last.isSome = true
    ∧ (after .controlPeriodStart (heating 1000)).heat.zones[1].grant = 64
    ∧ (after .controlPeriodStart (heating 1000)).heat.zones[1].onStreak = 1
    ∧ (after .controlPeriodStart { heating 60 with probe := (sampled true).probe }).heat.zones[1].request = 9 := by decide +kernel

theorem witness_DriveWindows :
    (run.hpc.host ≠ .drain ∧ (heating 60).hpc.host ≠ .drain ∧ (after .controlPeriodStart (heating 60)).hpc.host ≠ .drain)
    ∧ run.heat.periodStart = none
    ∧ (after .controlPeriodStart (heating 60)).heat.zones[(0 : Zone)].output
        = inWindow 0 (after .controlPeriodStart (heating 60)).heat.zones[(0 : Zone)].grant 0
    ∧ { heating 60 with now := 0 }.heat.zones[(0 : Zone)].output = inWindow 0 0 0
    ∧ true ≠ inWindow 0 0 0 := by decide +kernel

/-- Zone 0's window of 13 steps ends 1625 units after the period start. -/
theorem test_drive_window_edge :
    (after (.driveWindowEdge 0) (after .controlPeriodStart (heating 60))).heat.zones[0].output = false
    ∧ (after (.driveWindowEdge 0) (after .controlPeriodStart (heating 60))).now = 8000 + 1625 := by decide +kernel

/-- Three corners of a rectangle with position 9 are closed. -/
def cornered (x : PadPosition) : State :=
  setPad 9 x (setPad 8 { PadPosition.initial with state := .closed, closedSince := some 0 }
    (setPad 1 { PadPosition.initial with state := .closed, closedSince := some 0 }
      (setPad 0 { PadPosition.initial with state := .closed, closedSince := some 0 } scanned)))

/-- Section 7.5: the fourth corner of a rectangle is masked. -/
theorem test_ghost :
    (scanPosition 9 true true (cornered { PadPosition.initial with state := .closing, count := 4 })).1.pad.positions[9].state
      = .masked := by decide +kernel

theorem witness_Scans :
    (run.hpc.host ≠ .drain ∧ scanned.hpc.host ≠ .drain)
    ∧ run.pad.nextScan = none ∧ scanned.pad.scanning = true ∧ scanned.pad.nextScan ≠ none
    ∧ { scanned.pad with scanning := false }.scanning = false
    ∧ PadPosition.initial.state = .open ∧ 1 < scanned.pad.count
    ∧ { scanned.pad with count := 1 }.count ≤ 1
    ∧ (cornered { PadPosition.initial with state := .masked }).pad.positions[(9 : Position)].state = .masked
    ∧ completesRectangle (cornered PadPosition.initial) 9 = true ∧ completesRectangle scanned 9 = false
    ∧ (setPad 9 { PadPosition.initial with state := .opening, previous := some .masked } scanned).pad.positions[(9 : Position)].previous
        = some .masked
    ∧ stuckReached { cornered PadPosition.initial with
        now := 8000, pad := { (cornered PadPosition.initial).pad with record := { run.pad.record with stuckTime := 1 } } } 0 = true := by
  decide +kernel

end Sys2Proof.Tests
end

section
/-! SUPPORT. FLUSH_ACTIONS (R88): the flush, slot by slot in the model, as one update of the action table and of the counts
that its level actions hold. -/

namespace Sys2Proof.Machine

open Sys2Proof

/-! ### Tables entry by entry -/

theorem vset_eq_ofFn {α : Type} {n : Nat} (v : Vector α n) (i : Fin n) (x : α) :
    vset v i x = Vector.ofFn fun j : Fin n => if j = i then x else v[j] := by
  ext k hk
  simp [vset, Vector.getElem_set, Fin.ext_iff, eq_comm]

theorem ofFn_getElem_self {α : Type} {n : Nat} (v : Vector α n) : (Vector.ofFn fun j : Fin n => v[j]) = v := by
  ext k hk
  simp

/-- One entry changed: `f` is applied everywhere, with 1 at that entry and with 0, which keeps an entry, at the others. -/
theorem vset_apply_one {α : Type} {n : Nat} (f : α → Nat → α) (hf : ∀ x, f x 0 = x) (v : Vector α n) (i : Fin n) :
    vset v i (f v[i] 1) = Vector.ofFn fun j : Fin n => f v[j] (if i = j then 1 else 0) := by
  rw [vset_eq_ofFn]
  congr 1
  funext j
  by_cases hj : i = j
  · subst hj
    simp
  · simp only [hj, Ne.symm hj, if_false, hf]

/-! ### The counts of the level actions (R82) -/

/-- Every count that level actions hold is lowered, at the least to 0, by the number `f` gives for its action (Table 5-7). -/
def lowerCounts (f : LevelAction → Nat) (s : State) : State :=
  { s with
    heat.zones := Vector.ofFn fun z : Zone =>
      { s.heat.zones[z] with cutDemand := s.heat.zones[z].cutDemand - f (.cutZone z) }
    outs.forceOn := Vector.ofFn fun o : Fin 16 => s.outs.forceOn[o] - f (.forceOn o)
    outs.forceOff := Vector.ofFn fun o : Fin 16 => s.outs.forceOff[o] - f (.forceOff o) }

@[simp] theorem lowerCounts_zero (s : State) : lowerCounts (fun _ => 0) s = s := by
  simp only [lowerCounts, Nat.sub_zero, ofFn_getElem_self]

@[simp] theorem lowerCounts_lowerCounts (f g : LevelAction → Nat) (s : State) :
    lowerCounts f (lowerCounts g s) = lowerCounts (fun a => g a + f a) s := by
  simp only [lowerCounts, Fin.getElem_fin, Vector.getElem_ofFn, Fin.eta, Nat.sub_sub]

/-- A release lowers the one count its action names. -/
theorem releaseLevel_eq_lowerCounts (a : LevelAction) (s : State) :
    releaseLevel a s = lowerCounts (fun p => if a = p then 1 else 0) s := by
  have counts (v : Vector Nat 16) (o : Fin 16) := vset_apply_one (· - ·) Nat.sub_zero v o
  cases a with
  | none => simp [releaseLevel, changeLevel, lowerCounts]
  | cutZone z =>
    have zones := vset_apply_one (fun (x : ZoneState) k => { x with cutDemand := x.cutDemand - k }) (fun _ => rfl)
      s.heat.zones z
    simp only [releaseLevel, changeLevel, lowerCounts, zones, LevelAction.cutZone.injEq, reduceCtorEq, if_false,
      Nat.sub_zero, ofFn_getElem_self]
  | forceOn o =>
    simp only [releaseLevel, changeLevel, lowerCounts, counts, LevelAction.forceOn.injEq, reduceCtorEq, if_false,
      Nat.sub_zero, ofFn_getElem_self]
  | forceOff o =>
    simp only [releaseLevel, changeLevel, lowerCounts, counts, LevelAction.forceOff.injEq, reduceCtorEq, if_false,
      Nat.sub_zero, ofFn_getElem_self]

/-! ### Slots released and invalidated (R88) -/

/-- The slot's sample rule is tripped with the level action `p`. -/
def trippedWith (s : State) (p : LevelAction) (i : Slot) : Bool :=
  match s.acts.entries[i] with
  | some (.sample r) => s.acts.rules[i].tripped && r.level = p
  | _ => false

theorem trippedSlots_eq_filter (s : State) (p : LevelAction) : trippedSlots s p = allSlots.filter (trippedWith s p) := rfl

theorem trippedWith_of_sample {s : State} {i : Slot} {r : SampleRule} (h : s.acts.entries[i] = some (.sample r))
    (p : LevelAction) : trippedWith s p i = (s.acts.rules[i].tripped && decide (r.level = p)) := by
  simp only [trippedWith, h]

theorem trippedWith_of_not_sample {s : State} {i : Slot} (h : ∀ r, s.acts.entries[i] = some (.sample r) → False)
    (p : LevelAction) : trippedWith s p i = false := by
  unfold trippedWith
  split
  next r hr => exact (h r hr).elim
  next => rfl

theorem releaseSlot_eq_lowerCounts (i : Slot) (s : State) :
    releaseSlot i s = lowerCounts (fun p => if trippedWith s p i then 1 else 0) s := by
  unfold releaseSlot
  split
  next r hr =>
    simp only [trippedWith_of_sample hr, releaseLevel_eq_lowerCounts]
    cases s.acts.rules[i].tripped <;> simp
  next hr => simp [trippedWith_of_not_sample hr]

/-- The ways that `gone` names are invalid, their runtime state cleared. -/
def clearWays (gone : Slot → Bool) (s : State) : State :=
  { s with
    acts.entries := Vector.ofFn fun i : Slot => if gone i then none else s.acts.entries[i]
    acts.rules := Vector.ofFn fun i : Slot => if gone i then RuleState.clear else s.acts.rules[i] }

theorem clearWays_lowerCounts (gone : Slot → Bool) (f : LevelAction → Nat) (s : State) :
    clearWays gone (lowerCounts f s) = lowerCounts f (clearWays gone s) := rfl

theorem clearWays_none (s : State) : clearWays (fun _ => false) s = s := by
  simp only [clearWays, Bool.false_eq_true, if_false, ofFn_getElem_self]

theorem clearWays_clearWays (g h : Slot → Bool) (s : State) :
    clearWays g (clearWays h s) = clearWays (fun i => h i || g i) s := by
  have nested {α : Type} (i : Slot) (x y : α) :
      (if g i then x else if h i then x else y) = if h i || g i then x else y := by
    cases g i <;> simp
  simp only [clearWays, Fin.getElem_fin, Vector.getElem_ofFn, Fin.eta, nested]

/-- A slot that is not cleared is tripped as before. -/
theorem trippedWith_clearWays {gone : Slot → Bool} {i : Slot} (h : gone i = false) (s : State) (p : LevelAction) :
    trippedWith (clearWays gone s) p i = trippedWith s p i := by
  simp [trippedWith, clearWays, h]

theorem invalidateSlot_eq (s : State) (i : Slot) :
    invalidateSlot s i
      = lowerCounts (fun p => if trippedWith s p i then 1 else 0) (clearWays (fun j => j = i) s) := by
  simp only [invalidateSlot, releaseSlot_eq_lowerCounts, setRule, clearWays, vset_eq_ofFn, decide_eq_true_eq]
  rfl

/-- Slots invalidated one after the other, none twice, are cleared together, and each count is lowered by the number of
them that were tripped with its action. -/
theorem foldl_invalidateSlot {l : List Slot} (hl : l.Nodup) (s : State) :
    l.foldl invalidateSlot s = lowerCounts (fun p => l.countP (trippedWith s p)) (clearWays (fun i => i ∈ l) s) := by
  induction l generalizing s with
  | nil => simp [clearWays_none]
  | cons i l ih =>
    obtain ⟨hi, hl⟩ := List.nodup_cons.1 hl
    have others (p : LevelAction) : l.countP (trippedWith (invalidateSlot s i) p) = l.countP (trippedWith s p) :=
      List.countP_congr fun j hj => by
        have hne : decide (j = i) = false := decide_eq_false fun e => hi (e ▸ hj)
        rw [invalidateSlot_eq, ← clearWays_lowerCounts, trippedWith_clearWays hne]
        rfl
    calc (i :: l).foldl invalidateSlot s
        = lowerCounts (fun p => l.countP (trippedWith s p)) (clearWays (fun j => j ∈ l) (invalidateSlot s i)) := by
          simp only [List.foldl_cons, ih hl, others]
      _ = lowerCounts (fun p => (i :: l).countP (trippedWith s p)) (clearWays (fun j => j ∈ i :: l) s) := by
          simp only [invalidateSlot_eq, clearWays_lowerCounts, clearWays_clearWays, lowerCounts_lowerCounts,
            List.countP_cons, List.mem_cons, Bool.decide_or, Nat.add_comm]

/-! ### The flush -/

/-- The flush before the lock count (R88). -/
theorem foldl_invalidateSlot_filter (gone : Slot → Bool) (s : State) :
    (allSlots.filter gone).foldl invalidateSlot s
      = lowerCounts (fun p => ((trippedSlots s p).filter gone).length) (clearWays gone s) := by
  have distinct : allSlots.Nodup := List.nodup_finRange 32
  have cleared : (fun i => decide (i ∈ allSlots.filter gone)) = gone := by
    funext i
    simp [allSlots, List.mem_filter]
  have counted (p : LevelAction) :
      (allSlots.filter gone).countP (trippedWith s p) = ((trippedSlots s p).filter gone).length := by
    simp [trippedSlots_eq_filter, List.countP_eq_length_filter, Bool.and_comm]
  rw [foldl_invalidateSlot (distinct.filter gone), cleared]
  simp only [counted]

/-- The lock count after a flush (R88). -/
def lockAfterFlush (s : State) : Fin 4 := if s.acts.protect then s.acts.lock else 0

/-- The lock count is set. -/
def setLock (k : Fin 4) (s : State) : State := { s with acts.lock := k }

theorem setLock_self (s : State) : setLock s.acts.lock s = s := rfl

theorem setLock_lowerCounts (k : Fin 4) (f : LevelAction → Nat) (s : State) :
    setLock k (lowerCounts f s) = lowerCounts f (setLock k s) := rfl

theorem setLock_clearWays (k : Fin 4) (gone : Slot → Bool) (s : State) :
    setLock k (clearWays gone s) = clearWays gone (setLock k s) := rfl

/-- The state after a flush (R88). -/
def flushTable (s : State) : State :=
  setLock (lockAfterFlush s)
    (lowerCounts (fun p => ((trippedSlots s p).filter (flushed s)).length) (clearWays (flushed s) s))

theorem applyFlushActions_storing {s : State} (h : s.imageState.isStoring = true) :
    applyFlushActions s = (s, { status := .state, payload := [] }) := by
  simp [applyFlushActions, Answer.refuse, h]

theorem applyFlushActions_taken {s : State} (h : s.imageState.isStoring = false) :
    applyFlushActions s =
      (flushTable s, { status := .done, payload := byte1 (flushCount s) ++ byte1 (lockAfterFlush s).val }) := by
  have table : (if s.acts.protect then (allSlots.filter (flushed s)).foldl invalidateSlot s
      else setLock 0 ((allSlots.filter (flushed s)).foldl invalidateSlot s)) = flushTable s := by
    rw [foldl_invalidateSlot_filter, flushTable, lockAfterFlush]
    split
    · rw [setLock_lowerCounts, setLock_clearWays, setLock_self]
    · rfl
  have lock : (flushTable s).acts.lock = lockAfterFlush s := rfl
  rw [← lock, ← table]
  simp only [applyFlushActions, h, Bool.false_eq_true, if_false, setLock]

/-- A supervisor operation taken, when its owner leaves a state that delivers and does not answer BAD_REQUEST: the reply is
placed on the owner's state (R163). -/
theorem supervisorOp_replied {s t : State} {st : Status} {payload : List Byte} (h : Accepts s) (tag : Tag) (op : Byte)
    {owner : State → State × Answer} (ho : owner s = (t, { status := st, payload := payload }))
    (ht : t.hpc.host.delivers = true) (hb : st ≠ .badRequest) :
    supervisorOp tag op owner s = .next (replied tag st payload t) := by
  have hd : (owner s).1.hpc.host.delivers = true := by rw [ho]; exact ht
  have hs : (owner s).2.status ≠ .badRequest := by rw [ho]; exact hb
  rw [supervisorOp_accepts h tag op owner hd hs, ho, replied]

theorem exec_flushActions {s : State} (h : Calm s) (tag : Tag) :
    exec (.flushActions tag) s = supervisorOp tag 0x26 applyFlushActions s := by
  change execFlushActions tag s = _
  rw [execFlushActions, upon_calm h]

/-- Settles O33: the slots of the flush are invalidated one by one, each release touching only its own count
(`foldl_invalidateSlot`), so that together they are one update of the table and of the counts. -/
theorem flushActionsInvalidatesTheUnlockedWays : Obligations.FlushActionsInvalidatesTheUnlockedWays := by
  unfold Obligations.FlushActionsInvalidatesTheUnlockedWays
  intro s tag ⟨haccepts, hcalm⟩
  have delivers : s.hpc.host.delivers = true := haccepts.1
  rw [exec_flushActions hcalm]
  constructor
  · intro storing
    exact supervisorOp_replied haccepts tag _ (applyFlushActions_storing storing) delivers (by decide)
  · intro storing
    have next := supervisorOp_replied haccepts tag 0x26 (applyFlushActions_taken storing) delivers (by decide)
    have gone : flushed s = fun i => !s.acts.protect || decide (s.acts.lock.val ≤ i.val % 4) := rfl
    simpa only [flushTable, setLock, lowerCounts, clearWays, flushCount, lockAfterFlush, gone] using next

end Sys2Proof.Machine
end

section
/-! SUPPORT. The Keypad Scanner's state is its own (Table 0-2): the operations of the other blocks leave it as it is. -/

namespace Sys2Proof.Machine

open Sys2Proof

/-- A fold leaves the scanner alone when each of its steps does. -/
theorem foldl_pad {α : Type} {f : State → α → State} (hf : ∀ s x, (f s x).pad = s.pad) (l : List α) (s : State) :
    (l.foldl f s).pad = s.pad :=
  List.foldlRecOn l f (motive := fun t => t.pad = s.pad) rfl fun t ht x _ => (hf t x).trans ht

/-! ### Shared operations -/

theorem OnlyReports.pad {s t : State} (h : OnlyReports s t) : t.pad = s.pad := by obtain ⟨_, _, _, _, rfl⟩ := h; rfl

@[simp] theorem handNotice_pad (n : Notice) (s : State) : (handNotice n s).pad = s.pad := (handNotice_reports n s).pad

@[simp] theorem recordError_pad (c : ErrorClass) (f : ErrorFields) (s : State) : (recordError c f s).pad = s.pad :=
  (recordError_reports c f s).pad

@[simp] theorem reportRelayEmpty_pad (s : State) : (reportRelayEmpty s).pad = s.pad := by
  unfold reportRelayEmpty
  split <;> simp

@[simp] theorem answer_pad (tag : Tag) (op : Byte) (a : Answer) (s : State) : (answer tag op a s).pad = s.pad := by
  simp only [answer, apply_ite State.pad, recordError_pad, placeReply_pad, ite_self]

/-! ### Heater Allocator -/

@[simp] theorem periodComputation_pad (s : State) : (periodComputation s).pad = s.pad := by
  simp only [periodComputation]
  split <;> simp

@[simp] theorem startPeriod_pad (t : Nat) (s : State) : (startPeriod t s).pad = s.pad := by simp [startPeriod]

/-! ### Host Power Controller: changes of host state, the start, the drain -/

@[simp] theorem adoptHost_pad (new : HostState) (s : State) : (adoptHost new s).pad = s.pad := by
  simp only [adoptHost]
  split <;> simp

@[simp] theorem moveHost_pad (new : HostState) (s : State) : (moveHost new s).pad = s.pad := by
  simp only [moveHost, hostRestartEvent, apply_ite State.pad, clearReported_pad, flushQueues_pad, abandonRelay_pad,
    adoptHost_pad, ite_self]

@[simp] theorem beginRailStep_pad (k : Rail) (s : State) : (beginRailStep k s).pad = s.pad := by
  simp only [beginRailStep]
  split <;> simp

@[simp] theorem enterBoot_pad (s : State) : (enterBoot s).pad = s.pad := by simp [enterBoot]

@[simp] theorem enterRails_pad (kind : StartKind) (s : State) : (enterRails kind s).pad = s.pad := by
  simp only [enterRails]
  split <;> simp

@[simp] theorem completeSoak_pad (s : State) : (completeSoak s).pad = s.pad := enterRails_pad .normal s

@[simp] theorem enterSoak_pad (s : State) : (enterSoak s).pad = s.pad := by
  simp only [enterSoak]
  split <;> simp

@[simp] theorem evaluateGate_pad (s : State) : (evaluateGate s).pad = s.pad := by
  unfold evaluateGate
  split
  case h_1 => split <;> simp
  case h_2 => split <;> simp
  all_goals rfl

@[simp] theorem gateReport_pad (c : Channel) (s : State) : (gateReport c s).pad = s.pad := by
  unfold gateReport
  split <;> simp

@[simp] theorem enterPreheat_pad (s : State) : (enterPreheat s).pad = s.pad := by simp [enterPreheat]

@[simp] theorem forcedStartTest_pad (s : State) : (forcedStartTest s).pad = s.pad := by
  unfold forcedStartTest
  split <;> simp

@[simp] theorem settleEnds_pad (k : Rail) (s : State) : (settleEnds k s).pad = s.pad := by
  unfold settleEnds
  split <;> simp

@[simp] theorem wakeRequest_pad (s : State) : (wakeRequest s).pad = s.pad := by
  unfold wakeRequest
  split <;> simp

@[simp] theorem settleHost_pad (s : State) : (settleHost s).pad = s.pad := by
  unfold settleHost
  split <;> simp

@[simp] theorem enterDrain_pad (s : State) : (enterDrain s).pad = s.pad := by simp [enterDrain]

@[simp] theorem offSettleStep_pad (s : State) : (offSettleStep s).pad = s.pad := by
  simp only [offSettleStep]
  split <;> split <;> simp

theorem applyShutdown_pad (keepWarm : Byte) (s : State) : (applyShutdown keepWarm s).1.pad = s.pad := by
  unfold applyShutdown
  split
  · rfl
  · split
    · rfl
    · simp only [enterDrain_pad]
      split <;> rfl

/-! ### Host Power Controller: restarts and heartbeats -/

@[simp] theorem softRestart_pad (c : RestartCause) (s : State) : (softRestart c s).pad = s.pad := by simp [softRestart]

@[simp] theorem enterPowerCycle_pad (s : State) : (enterPowerCycle s).pad = s.pad := by simp [enterPowerCycle]

@[simp] theorem enterLockout_pad (s : State) : (enterLockout s).pad = s.pad := by simp [enterLockout]

@[simp] theorem hardDecision_pad (c : RestartCause) (s : State) : (hardDecision c s).pad = s.pad := by
  simp only [hardDecision]
  split <;> simp

@[simp] theorem escalate_pad (c : RestartCause) (s : State) : (escalate c s).pad = s.pad := by
  simp only [escalate]
  split <;> simp

@[simp] theorem railFault_pad (k : Rail) (s : State) : (railFault k s).pad = s.pad := by simp [railFault]

@[simp] theorem exitLockout_pad (s : State) : (exitLockout s).pad = s.pad := by simp [exitLockout]

@[simp] theorem ackLockout_pad (s : State) : (ackLockout s).pad = s.pad := by
  unfold ackLockout
  split <;> simp

@[simp] theorem requestRestart_pad (s : State) : (requestRestart s).pad = s.pad := by
  unfold requestRestart
  split <;> simp

@[simp] theorem requestShutdown_pad (s : State) : (requestShutdown s).pad = s.pad := by
  unfold requestShutdown
  split <;> simp

@[simp] theorem hostRestartReplyLeft_pad (s : State) : (hostRestartReplyLeft s).pad = s.pad := by
  unfold hostRestartReplyLeft makePendingRestart
  split
  · split <;> simp
  · rfl

@[simp] theorem enterWarn_pad (s : State) : (enterWarn s).pad = s.pad := by
  simp only [enterWarn]
  split <;> simp

theorem applyHeartbeat_pad (seq : Byte) (s : State) : (applyHeartbeat seq s).1.pad = s.pad := by
  have accepted : (acceptHeartbeat seq s).pad = s.pad := by
    unfold acceptHeartbeat
    split <;> simp
  unfold applyHeartbeat
  split
  · rfl
  · split
    · simp
    · split
      · rfl
      · exact accepted

theorem applyHostRestart_pad (kind : Byte) (s : State) : (applyHostRestart kind s).1.pad = s.pad := by
  simp only [applyHostRestart, apply_ite Prod.fst, apply_ite State.pad, ite_self]

/-! ### Action Table Unit -/

@[simp] theorem changeLevel_pad (f : Nat → Nat) (a : LevelAction) (s : State) : (changeLevel f a s).pad = s.pad := by
  cases a <;> rfl

@[simp] theorem runEdge_pad (i : Slot) (r : SampleRule) (cause : TripCause) (v : Option Int) (s : State) :
    (runEdge i r cause v s).pad = s.pad := by
  unfold runEdge
  split <;> simp

@[simp] theorem tripRule_pad (i : Slot) (r : SampleRule) (cause : TripCause) (v : Option Int) (s : State) :
    (tripRule i r cause v s).pad = s.pad := by
  simp [tripRule, applyLevel]

@[simp] theorem clearRule_pad (i : Slot) (r : SampleRule) (s : State) : (clearRule i r s).pad = s.pad := by
  simp [clearRule, releaseLevel]

@[simp] theorem inactiveRule_pad (i : Slot) (r : SampleRule) (s : State) : (inactiveRule i r s).pad = s.pad := by
  unfold inactiveRule
  split <;> simp

@[simp] theorem activeRule_pad (i : Slot) (r : SampleRule) (v : Int) (s : State) : (activeRule i r v s).pad = s.pad := by
  unfold activeRule
  split
  · split <;> simp
  · split <;> simp

@[simp] theorem reportSample_pad (i : Slot) (r : SampleRule) (v : Int) (s : State) :
    (reportSample i r v s).pad = s.pad := by
  unfold reportSample
  split <;> simp

@[simp] theorem evaluateSlot_pad (c : Channel) (v : Int) (s : State) (i : Slot) : (evaluateSlot c v s i).pad = s.pad := by
  unfold evaluateSlot
  split
  · split
    · split <;> simp
    · rfl
  · rfl

@[simp] theorem evaluateSample_pad (c : Channel) (v : Int) (s : State) : (evaluateSample c v s).pad = s.pad :=
  foldl_pad (evaluateSlot_pad c v) _ s

@[simp] theorem staleRule_pad (i : Slot) (r : SampleRule) (s : State) : (staleRule i r s).pad = s.pad := by
  unfold staleRule
  split
  · split
    · rfl
    · split <;> simp
  · simp

@[simp] theorem staleSlot_pad (c : Channel) (s : State) (i : Slot) : (staleSlot c s i).pad = s.pad := by
  unfold staleSlot
  split
  · split <;> simp
  · rfl

@[simp] theorem staleReport_pad (c : Channel) (s : State) : (staleReport c s).pad = s.pad :=
  foldl_pad (staleSlot_pad c) _ s

@[simp] theorem releaseSlot_pad (i : Slot) (s : State) : (releaseSlot i s).pad = s.pad := by
  unfold releaseSlot releaseLevel
  split
  · split <;> simp
  · rfl

@[simp] theorem startEpisode_pad (i : Slot) (e : Option ActionEntry) (s : State) : (startEpisode i e s).pad = s.pad := by
  unfold startEpisode
  split
  · split <;> simp
  · rfl

theorem applyLoadAction_pad (a : ActionLoad) (s : State) : (applyLoadAction a s).1.pad = s.pad := by
  unfold applyLoadAction
  split <;> simp [replaceEntry]

theorem applyLockActions_pad (count protect : Byte) (s : State) : (applyLockActions count protect s).1.pad = s.pad := by
  simp only [applyLockActions]
  split
  · rfl
  · split
    · split
      · rfl
      · split <;> rfl
    · rfl

theorem applyFlushActions_pad (s : State) : (applyFlushActions s).1.pad = s.pad := by
  cases h : s.imageState.isStoring with
  | true => rw [applyFlushActions_storing h]
  | false => simp only [applyFlushActions_taken h, flushTable, setLock, lowerCounts, clearWays]

@[simp] theorem resetRules_pad (s : State) : (resetRules s).pad = s.pad :=
  foldl_pad (fun u i => by simp) allSlots s

/-! ### Probe Scheduler: all but good samples -/

@[simp] theorem joinQueue_pad (c : Channel) (s : State) : (joinQueue c s).pad = s.pad := rfl

@[simp] theorem afterResult_pad (c : Channel) (s : State) : (afterResult c s).pad = s.pad := by
  unfold afterResult
  split <;> simp

@[simp] theorem checkMissing_pad (c : Channel) (s : State) : (checkMissing c s).pad = s.pad := by
  simp only [checkMissing]
  split <;> simp [becomeMissing]

@[simp] theorem takeMiss_pad (c : Channel) (checked : Bool) (s : State) : (takeMiss c checked s).pad = s.pad := by
  simp only [takeMiss, checkMissing_pad]
  split <;> simp

@[simp] theorem reloadChannel_pad (l : ChannelLoad) (s : State) : (reloadChannel l s).pad = s.pad := by
  simp only [reloadChannel]
  split <;> simp

/-! ### Relay Unit -/

@[simp] theorem dispatchRelay_pad (e : RelayEntry) (s : State) : (dispatchRelay e s).pad = s.pad := rfl

@[simp] theorem dispatchPoll_pad (c : Channel) (s : State) : (dispatchPoll c s).pad = s.pad := rfl

@[simp] theorem relayReply_pad (e : RelayEntry) (st : Status) (p : List Byte) (s : State) :
    (relayReply e st p s).pad = s.pad := by
  simp [relayReply]

@[simp] theorem refuseAtDispatch_pad (e : RelayEntry) (s : State) : (refuseAtDispatch e s).pad = s.pad := by
  simp [refuseAtDispatch]

theorem grants_pad (n : Nat) (s : State) : (grants n s).pad = s.pad := by
  induction n generalizing s with
  | zero => rfl
  | succ n ih =>
    unfold grants
    split
    · split
      · rfl
      · exact dispatchPoll_pad _ s
      · split
        · rw [ih, refuseAtDispatch_pad]
        · exact dispatchRelay_pad _ s
    · rfl

@[simp] theorem arbitrate_pad (s : State) : (arbitrate s).pad = s.pad := grants_pad _ s

@[simp] theorem refuseRelayed_pad (q : Relayed) (st : Status) (err : Option (ErrorClass × ErrorFields)) (s : State) :
    (refuseRelayed q st err s).pad = s.pad := by
  cases err <;> simp [refuseRelayed]

theorem takeRelayed_pad (q : Relayed) (s : State) : (takeRelayed q s).pad = s.pad := by
  unfold takeRelayed
  split
  · simp
  · split
    · simp
    · simp only [apply_ite State.pad, refuseRelayed_pad, admitRelay, arbitrate_pad, ite_self]

@[simp] theorem answerRelayed_pad (r : FieldResult) (s : State) : (answerRelayed r s).pad = s.pad := by
  unfold answerRelayed
  split
  · simp only [reportRelayEmpty_pad]
    split <;> simp
  · rfl

theorem drainExpires_pad (s : State) : (drainExpires s).pad = s.pad := by
  simp [drainExpires, foldl_pad]

/-! ### Keymap Unit -/

@[simp] theorem pushLayer_pad (p : Position) (layer : Fin 4) (termination : Fin 32) (count : Nat) (s : State) :
    (pushLayer p layer termination count s).pad = s.pad := by
  unfold pushLayer
  split <;> simp

theorem terminate_pad (n : Nat) (s : State) : (terminate n s).pad = s.pad := by
  induction n generalizing s with
  | zero => rfl
  | succ n ih =>
    unfold terminate
    split
    · split
      · rw [ih, setStack_pad]
      · rfl
    · rfl

@[simp] theorem terminationCheck_pad (s : State) : (terminationCheck s).pad = s.pad := terminate_pad _ s

@[simp] theorem keyNotice_pad (p : Position) (code : Nat) (d : Direction) (layer : Fin 4) (forced : Bool) (s : State) :
    (keyNotice p code d layer forced s).pad = s.pad := by
  simp [keyNotice]

@[simp] theorem countTop_pad (s : State) : (countTop s).pad = s.pad := by
  simp only [countTop]
  split
  · split <;> simp
  · rfl

@[simp] theorem pressPlain_pad (p : Position) (code : Nat) (layer : Fin 4) (s : State) :
    (pressPlain p code layer s).pad = s.pad := by
  simp only [pressPlain]
  split <;> simp

@[simp] theorem pressLayer_pad (p : Position) (layer : Fin 4) (termination : Fin 32) (count delay : Nat) (s : State) :
    (pressLayer p layer termination count delay s).pad = s.pad := by
  unfold pressLayer
  split <;> simp

@[simp] theorem serviceFlags_pad (f : ServiceFunction) (s : State) : (serviceFlags f s).pad = s.pad := by
  cases f <;> rfl

@[simp] theorem serviceRequest_pad (f : ServiceFunction) (s : State) : (serviceRequest f s).pad = s.pad := by
  cases f <;> simp [serviceRequest]

@[simp] theorem pressAction_pad (p : Position) (e : KeyEntry) (layer : Fin 4) (s : State) :
    (pressAction p e layer s).pad = s.pad := by
  cases e with
  | service f c =>
    simp only [pressAction]
    split <;> simp
  | _ => simp [pressAction]

@[simp] theorem checkWithRequest_pad (request : Option ServiceFunction) (requestFirst : Bool) (s : State) :
    (checkWithRequest request requestFirst s).pad = s.pad := by
  unfold checkWithRequest
  split
  · split <;> simp
  · simp

@[simp] theorem takePress_pad (p : Position) (requestFirst : Bool) (s : State) : (takePress p requestFirst s).pad = s.pad := by
  simp [takePress, recordResolution, resetIdle]

@[simp] theorem releaseAction_pad (p : Position) (forced : Bool) (s : State) : (releaseAction p forced s).pad = s.pad := by
  simp only [releaseAction]
  split
  · split <;> simp
  · simp
  · rfl

@[simp] theorem takeRelease_pad (p : Position) (forced : Bool) (s : State) : (takeRelease p forced s).pad = s.pad := by
  simp [takeRelease, releaseHeld]

/-! ### Tables, outputs, the link -/

theorem applyLoadZone_pad (l : ZoneLoad) (s : State) : (applyLoadZone l s).1.pad = s.pad := by
  unfold applyLoadZone
  split <;> rfl

theorem applyLoadBudget_pad (b : BudgetRecord) (s : State) : (applyLoadBudget b s).1.pad = s.pad := by
  simp only [applyLoadBudget]
  split <;> simp

theorem applySetFlags_pad (set clear : Byte) (s : State) : (applySetFlags set clear s).1.pad = s.pad := by
  unfold applySetFlags
  split <;> rfl

theorem applyWriteOutputs_pad (mode : Byte) (data : Word) (s : State) : (applyWriteOutputs mode data s).1.pad = s.pad := by
  unfold applyWriteOutputs
  split <;> rfl

theorem applySetOutputMask_pad (plane foreground : Word) (indicator : Byte) (s : State) :
    (applySetOutputMask plane foreground indicator s).1.pad = s.pad := by
  unfold applySetOutputMask
  split <;> rfl

theorem applySetIgnore_pad (mask : Word) (s : State) : (applySetIgnore mask s).1.pad = s.pad := by
  unfold applySetIgnore
  split <;> rfl

theorem applyCounterSelect_pad (counter event : Byte) (s : State) : (applyCounterSelect counter event s).1.pad = s.pad := by
  unfold applyCounterSelect
  split
  · split <;> rfl
  · rfl

theorem readStatus_pad (part : Byte) (record : State → Option (List Byte)) (s : State) :
    (readStatus part record s).1.pad = s.pad := by
  unfold readStatus
  split <;> rfl

@[simp] theorem recordHostCheck_pad (s : State) : (recordHostCheck s).pad = s.pad := by
  unfold recordHostCheck
  split <;> simp

@[simp] theorem replySent_pad (s : State) : (replySent s).pad = s.pad := by
  unfold replySent
  split
  · split <;> simp
  · rfl

@[simp] theorem imageCheck_pad (s : State) : (imageCheck s).pad = s.pad := by
  unfold imageCheck
  split <;> simp

theorem takeStoreImage_pad (tag : Tag) (code : Byte) (s : State) : (takeStoreImage tag code s).pad = s.pad := by
  unfold takeStoreImage
  split
  · simp
  · split <;> simp

@[simp] theorem resetQueues_pad (s : State) : (resetQueues s).pad = s.pad := by
  simp only [resetQueues]
  split <;> simp

theorem idle_pad (s : State) : (idle s).pad = s.pad := by
  unfold idle idleSupplied
  split
  · rfl
  · split
    · simp
    · split <;> simp

end Sys2Proof.Machine
end

section
/-! SUPPORT. The debounce count N (R115, R116): the formula, and its range D_base to D_max, kept by every command and every idle
step. N and the keypad record change together, so only a record that arrives from outside must be known to be in range. -/

namespace Sys2Proof.Machine

open Sys2Proof

/-! ### The formula (R115) -/

theorem debounceCount_some (r : KeypadRecord) (t : Int) :
    (debounceCount r (some t) : Int) = min (r.dMax : Int) (r.dBase + max 0 (-t) / r.step) := by
  simp [debounceCount, Int.ofNat_toNat, max_comm]

theorem debounceCount_mem {r : KeypadRecord} (h : r.dBase ≤ r.dMax) (basis : Option Int) :
    r.dBase ≤ debounceCount r basis ∧ debounceCount r basis ≤ r.dMax := by
  cases basis with
  | none => exact ⟨h, le_refl _⟩
  | some t => exact ⟨le_min h (Nat.le_add_right _ _), min_le_left _ _⟩

/-- A reading state of NONE is the absence of a temperature in use (R27). -/
theorem channelReading_none_iff (e : ChannelEntry) (c : ChannelState) :
    (channelReading e c).1 = .none ↔ (channelReading e c).2 = none := by
  unfold channelReading
  split
  · split
    · split <;> simp
    · simp
  · simp

theorem zoneReading_none_iff (s : State) (z : Zone) : (zoneReading s z).1 = .none ↔ (zoneReading s z).2 = none :=
  channelReading_none_iff _ _

theorem temperatureBasis_zone {s : State} {z : Zone} (h : s.pad.record.zone = some z) :
    temperatureBasis s = (zoneReading s z).2 := by
  simp only [temperatureBasis, h]

theorem temperatureBasis_no_zone {s : State} (h : s.pad.record.zone = none) : temperatureBasis s = none := by
  simp only [temperatureBasis, h]

/-! ### The range (R115) -/

theorem DebounceLaw.of_pad {s t : State} (h : DebounceLaw s) (e : t.pad = s.pad) : DebounceLaw t := by
  rwa [DebounceLaw, e]

theorem DebounceLaw.ordered {s : State} (h : DebounceLaw s) : s.pad.record.dBase ≤ s.pad.record.dMax := h.1.trans h.2

theorem KeypadRecord.ordered_of_inRange {r : KeypadRecord} (h : r.inRange = true) : r.dBase ≤ r.dMax := by
  simp only [KeypadRecord.inRange, Bool.and_eq_true, decide_eq_true_eq] at h
  omega

theorem recomputeDebounce_law {s : State} (h : s.pad.record.dBase ≤ s.pad.record.dMax) : DebounceLaw (recomputeDebounce s) :=
  debounceCount_mem h _

/-- After power-on N is D_max (R126). -/
theorem fresh_law {image : Image} (h : image.keypad.dBase ≤ image.keypad.dMax) (power : Power) (store : Store)
    (st : ImageState) (pg : Vector Bool 3) (choice : Nat) (pending : List Instr) :
    DebounceLaw (State.fresh power image store st pg choice pending) :=
  ⟨h, le_refl _⟩

@[simp] theorem debounceLaw_setPad (p : Position) (x : PadPosition) (s : State) :
    DebounceLaw (setPad p x s) ↔ DebounceLaw s := Iff.rfl

@[simp] theorem debounceLaw_takePress (p : Position) (requestFirst : Bool) (s : State) :
    DebounceLaw (takePress p requestFirst s) ↔ DebounceLaw s := by
  rw [DebounceLaw, takePress_pad, DebounceLaw]

@[simp] theorem debounceLaw_takeRelease (p : Position) (forced : Bool) (s : State) :
    DebounceLaw (takeRelease p forced s) ↔ DebounceLaw s := by
  rw [DebounceLaw, takeRelease_pad, DebounceLaw]

/-- A fold keeps the range when each of its steps does. -/
theorem foldl_law {α : Type} {f : State → α → State} (hf : ∀ s x, DebounceLaw s → DebounceLaw (f s x)) (l : List α)
    {s : State} (h : DebounceLaw s) : DebounceLaw (l.foldl f s) :=
  List.foldlRecOn l f h fun t ht x _ => hf t x ht

/-! ### Scans (R117 to R123) -/

section Scan

variable {s : State} (h : DebounceLaw s) (p : Position)
include h

theorem unmaskIfFree_law (rf : Bool) : DebounceLaw (unmaskIfFree p rf s) := by
  unfold unmaskIfFree
  split <;> simpa

theorem stepClosing_law (n : Nat) (rf : Bool) : DebounceLaw (stepClosing p n rf s) := by
  have accepted : DebounceLaw (acceptPress p rf s) := by
    simp only [acceptPress]
    split <;> simpa
  simp only [stepClosing]
  split
  · exact accepted
  · simpa

theorem stepOpening_law (n : Nat) (v : StableState) : DebounceLaw (stepOpening p n v s).1 := by
  have accepted : DebounceLaw (acceptRelease p v s) := by
    cases v <;> simpa [acceptRelease]
  simp only [stepOpening]
  split
  · exact accepted
  · simpa

theorem stuckTest_law : DebounceLaw (stuckTest p s) := by
  simp only [stuckTest]
  split
  · split <;> simpa
  · exact h

theorem returnStable_law (rf : Bool) : DebounceLaw (returnStable p rf s) := by
  simp only [returnStable]
  split
  · exact unmaskIfFree_law ((debounceLaw_setPad ..).2 h) p rf
  · simpa

theorem stepStuck_law : DebounceLaw (stepStuck p s).1 := by
  simp only [stepStuck]
  split <;> simpa

theorem scanPosition_law (closed rf : Bool) : DebounceLaw (scanPosition p closed rf s).1 := by
  simp only [scanPosition]
  split
  case h_1 => exact h
  case h_2 | h_3 => exact stepClosing_law h p _ rf
  case h_4 => exact h
  case h_5 | h_6 => exact stuckTest_law h p
  case h_7 | h_8 | h_9 => exact stepOpening_law h p _ _
  case h_10 => exact returnStable_law h p rf
  case h_11 => exact stepStuck_law h p
  case h_12 => exact h

omit p

theorem scan_law (readings rf : BitVec 64) (l : List Position) (left : Bool) :
    DebounceLaw (l.foldl (scanVisit readings rf) (s, left)).1 := by
  induction l generalizing s left with
  | nil => exact h
  | cons p l ih => exact ih (scanPosition_law h p _ _) _

theorem processScan_law (readings rf : BitVec 64) : DebounceLaw (processScan readings rf s) := by
  have visited := scan_law h readings rf allPositions false
  simp only [processScan]
  split
  · exact foldl_law (fun _ p hu => unmaskIfFree_law hu p _) allPositions visited
  · exact visited

end Scan

/-! ### The recomputations (R116) and the scanner's reset (R126) -/

theorem goodSample_law {s : State} (h : DebounceLaw s) (c : Channel) (v : Int) : DebounceLaw (goodSample c v s) := by
  have reported {u : State} (hu : DebounceLaw u) : DebounceLaw (debounceReport c u) := by
    unfold debounceReport
    split
    · split
      · exact recomputeDebounce_law hu.ordered
      · exact hu
    · exact hu
  exact reported (h.of_pad (by simp))

theorem applyLoadKeypad_law {r : KeypadRecord} (hr : r.dBase ≤ r.dMax) (rf : BitVec 64) (s : State) :
    DebounceLaw (applyLoadKeypad rf r s).1 := by
  have loaded : DebounceLaw (recomputeDebounce { s with pad.record := r }) := recomputeDebounce_law hr
  have unmasked (u : State) (p : Position) (hu : DebounceLaw u) : DebounceLaw (unmaskAtLoad rf u p) := by
    simp only [unmaskAtLoad]
    split <;> simpa
  simp only [applyLoadKeypad]
  split
  · exact foldl_law unmasked allPositions loaded
  · exact loaded

theorem beginScan_law {s : State} (h : DebounceLaw s) (t : Nat) : DebounceLaw (beginScan t s) := h

theorem completeLoad_law {s : State} (h : DebounceLaw s) : DebounceLaw (completeLoad s) := by
  have settled : DebounceLaw (settleHost { s with power := .running }) := h.of_pad (settleHost_pad _)
  have started (u : State) (hu : DebounceLaw u) : DebounceLaw (beginScan u.now (startPeriod u.now u)) :=
    beginScan_law (hu.of_pad (startPeriod_pad u.now u)) u.now
  simp only [completeLoad]
  exact (started _ (recomputeDebounce_law settled.ordered)).of_pad (by simp)

theorem applySupervisorReset_law {s : State} (h : DebounceLaw s) : DebounceLaw (applySupervisorReset s).1 := by
  have released {u : State} (hu : DebounceLaw u) : DebounceLaw (resetKeys u) :=
    foldl_law (fun _ p hv => (debounceLaw_takeRelease p true _).2 hv) _ hu
  exact (released (h.of_pad (abandonRelay_pad s))).of_pad (by simp [applySupervisorReset, resetBlocks])

theorem losePower_law (s : State) : DebounceLaw (losePower s) := fresh_law (by decide) ..

theorem applyPower_law {s : State} (h : TablesInRange s) : DebounceLaw (applyPower s) := by
  have factory : Image.factory.keypad.dBase ≤ Image.factory.keypad.dMax := by decide
  have filled : (storeAfterLoss s).tables.keypad.dBase ≤ (storeAfterLoss s).tables.keypad.dMax := by
    unfold storeAfterLoss
    split
    · exact factory
    · cases held : s.store with
      | image i =>
        obtain ⟨-, stored, -⟩ := h
        obtain ⟨-, -, -, -, -, -, -, -, keypad, -, -⟩ := stored i (by rw [held]; rfl)
        exact KeypadRecord.ordered_of_inRange keypad
      | empty | damaged => exact factory
  exact (fresh_law filled ..).of_pad (imageCheck_pad _)

/-- LOAD_KEYPAD's payload spells a record in range or none (R113). -/
theorem readKeypad_inRange {p : List Byte} {r : KeypadRecord} (h : readKeypad p = some r) : r.inRange = true := by
  simp only [readKeypad, checked, Option.bind_eq_bind, Option.bind_eq_some_iff, Option.ite_none_right_eq_some,
    Option.some.injEq] at h
  obtain ⟨_, -, _, -, _, -, _, -, _, -, _, -, _, -, fits, rfl⟩ := h
  exact fits

/-! ### Poll results (R150) -/

theorem takeResult_law {s : State} (h : DebounceLaw s) (c : Channel) (owned : Bool) (r : FieldResult) :
    DebounceLaw (takeResult c owned r s) := by
  have classified : DebounceLaw (classify c r s) := by
    have missed (checked : Bool) : DebounceLaw (takeMiss c checked s) := h.of_pad (takeMiss_pad c checked s)
    cases r with
    | ack data =>
      simp only [classify]
      split
      · split
        · exact goodSample_law h c _
        · exact missed false
      · exact missed true
    | nak | timeout => exact missed false
    | checkFailed => exact missed true
  unfold takeResult
  split
  · exact classified.of_pad (afterResult_pad c _)
  · exact h

theorem endTransaction_law {s : State} (h : DebounceLaw s) (use : LinkUse) (r : FieldResult) (resultFirst : Bool) :
    DebounceLaw (endTransaction use r resultFirst s) := by
  have granted {u : State} (hu : DebounceLaw u) : DebounceLaw (arbitrate u) := hu.of_pad (arbitrate_pad u)
  have idled : DebounceLaw (idleLink s) := h
  cases use with
  | relay => exact granted (idled.of_pad (answerRelayed_pad r _))
  | poll c owned =>
    simp only [endTransaction]
    split
    · exact granted (takeResult_law idled c owned r)
    · exact granted (takeResult_law (granted idled) c owned r)
  | orphan => cases r <;> exact granted idled

theorem takeReply_law {s : State} (h : DebounceLaw s) (f : FieldReply) (resultFirst : Bool) :
    DebounceLaw (takeReply f resultFirst s) := by
  unfold takeReply
  split
  · exact h
  · exact endTransaction_law h _ _ resultFirst
  · split
    · exact endTransaction_law h _ _ resultFirst
    · exact h
  · exact h

/-! ### Outcomes -/

/-- A next state that the outcome gives has N in its range. -/
def Debounced (r : Result) : Prop := ∀ t, r = .next t → DebounceLaw t

theorem debounced_finish {s : State} (h : DebounceLaw s) : Debounced (finish s) := by
  rintro _ ⟨⟩
  exact h.of_pad (startTransmit_pad s)

section Outcome

variable {s : State} (h : DebounceLaw s)
include h

theorem debounced_finish_of_pad {t : State} (e : t.pad = s.pad) : Debounced (finish t) := debounced_finish (h.of_pad e)

theorem debounced_upon {event : State → Result} (he : ∀ u, DebounceLaw u → Debounced (event u)) :
    Debounced (upon s event) :=
  he _ (h.of_pad (reportRelayEmpty_pad s))

theorem debounced_expiry {act : State → State} (ha : ∀ u, (act u).pad = u.pad) (timer : Option Timer) :
    Debounced (onExpiry timer act s) := by
  unfold onExpiry
  split
  · exact debounced_finish_of_pad h ((ha _).trans (reach_pad _ s))
  · exact debounced_finish h

theorem takeFrame_law {f : State → State} (hf : DebounceLaw (f s)) (tag : Tag) : DebounceLaw (takeFrame tag f s) := by
  unfold takeFrame
  split
  · split
    · exact hf
    · exact h.of_pad (recordError_pad ..)
  · exact h

theorem takeMalformed_law (tag : Tag) (op : Byte) (address : Addr) : DebounceLaw (takeMalformed tag op address s) :=
  takeFrame_law h (h.of_pad (by simp [answerMalformed])) tag

theorem debounced_supervisorOp {owner : State → State × Answer} (ho : DebounceLaw (owner s).1) (tag : Tag) (op : Byte) :
    Debounced (supervisorOp tag op owner s) :=
  debounced_finish (takeFrame_law h (ho.of_pad (answer_pad ..)) tag)

theorem debounced_operation {tag : Tag} {op : Byte} {owner : State → State × Answer}
    (ho : ∀ u, (owner u).1.pad = u.pad) : Debounced (upon s (supervisorOp tag op owner)) :=
  debounced_upon h fun u hu => debounced_supervisorOp hu (hu.of_pad (ho u)) tag op

theorem debounced_status (tag : Tag) (part : Byte) (record : State → Option (List Byte)) :
    Debounced (upon s (statusOp tag part record)) :=
  debounced_operation h (readStatus_pad part record)

theorem debounced_load {α : Type} {tag : Tag} {op : Byte} {fits : Bool} {decoded : Option α}
    {load : α → State → State × Answer} (hl : ∀ r u, decoded = some r → DebounceLaw u → DebounceLaw (load r u).1) :
    Debounced (upon s (recordOp tag op fits (loadOp decoded load))) := by
  refine debounced_upon h fun u hu => ?_
  have owned : DebounceLaw (loadOp decoded load u).1 := by
    unfold loadOp
    split
    · exact hu
    · split
      · exact hl _ u rfl hu
      · exact hu
  unfold recordOp
  split
  · exact debounced_supervisorOp hu owned tag op
  · exact debounced_finish (takeMalformed_law hu tag op 0)

theorem debounced_load_of_pad {α : Type} {tag : Tag} {op : Byte} {fits : Bool} {decoded : Option α}
    {load : α → State → State × Answer} (hl : ∀ r u, (load r u).1.pad = u.pad) :
    Debounced (upon s (recordOp tag op fits (loadOp decoded load))) :=
  debounced_load h fun r u _ hu => hu.of_pad (hl r u)

/-! ### Commands with events of their own -/

theorem execImageLoadComplete_debounced : Debounced (execImageLoadComplete s) :=
  debounced_upon h fun u hu => by
    split
    · exact debounced_finish (completeLoad_law hu)
    · exact debounced_finish hu

theorem execRead_debounced (tag : Tag) (address : Addr) (length : Byte) : Debounced (execRead tag address length s) :=
  debounced_upon h fun u hu => by
    split
    · exact debounced_finish (takeFrame_law hu (hu.of_pad (takeRelayed_pad _ u)) tag)
    · exact debounced_finish (takeMalformed_law hu tag _ address)

theorem execWrite_debounced (tag : Tag) (address : Addr) (data : List Byte) : Debounced (execWrite tag address data s) :=
  debounced_upon h fun u hu => by
    split
    · exact debounced_finish (takeFrame_law hu (hu.of_pad (takeRelayed_pad _ u)) tag)
    · exact debounced_finish (takeMalformed_law hu tag _ address)

theorem execFieldReply_debounced (bytes : List Byte) (resultFirst : Bool) : Debounced (execFieldReply bytes resultFirst s) :=
  debounced_upon h fun u hu => by
    split
    · exact debounced_finish hu
    · exact debounced_finish (takeReply_law (s := { u with relay.partialReply := [] }) hu _ resultFirst)

theorem execFieldTimeoutExpiry_debounced (resultFirst : Bool) : Debounced (execFieldTimeoutExpiry resultFirst s) :=
  debounced_upon h fun u hu => by
    split
    · split
      · exact debounced_finish (endTransaction_law (hu.of_pad (reach_pad _ u)) _ _ resultFirst)
      · exact debounced_finish hu
    · exact debounced_finish hu

theorem execCPortRequestEnd_debounced : Debounced (execCPortRequestEnd s) :=
  debounced_upon h fun u hu => by
    split
    · split <;> exact debounced_finish hu
    · exact debounced_finish hu

theorem execDueTimeReached_debounced (c : Channel) : Debounced (execDueTimeReached c s) :=
  debounced_upon h fun u hu => by
    split
    · exact debounced_finish_of_pad hu (by simp)
    · exact debounced_finish_of_pad hu rfl
    · exact debounced_finish hu

theorem execCPortReplyGap_debounced : Debounced (execCPortReplyGap s) :=
  debounced_upon h fun _ hu => debounced_finish hu

theorem execFrameIdleAbandon_debounced : Debounced (execFrameIdleAbandon s) :=
  debounced_upon h fun _ hu => debounced_finish hu

theorem execFrameLengthAbandon_debounced : Debounced (execFrameLengthAbandon s) :=
  debounced_upon h fun _ hu => debounced_finish_of_pad hu (recordHostCheck_pad _)

theorem execStoreImage_debounced (tag : Tag) (code : Byte) : Debounced (execStoreImage tag code s) :=
  debounced_upon h fun u hu => debounced_finish (takeFrame_law hu (hu.of_pad (takeStoreImage_pad tag code u)) tag)

theorem execStoreComplete_debounced : Debounced (execStoreComplete s) :=
  debounced_upon h fun u hu => by
    split
    · split
      · exact debounced_finish_of_pad hu (placeReply_pad ..)
      · exact debounced_finish hu
    · exact debounced_finish hu
    · exact debounced_finish hu

theorem execTransmitComplete_debounced : Debounced (execTransmitComplete s) :=
  debounced_upon h fun u hu => by
    split
    · exact debounced_finish hu
    · exact debounced_finish_of_pad hu (replySent_pad u)
    · exact debounced_finish hu

theorem execPowerGoodArrival_debounced (k : Rail) : Debounced (execPowerGoodArrival k s) :=
  debounced_upon h fun u hu => by
    split
    · split <;> exact debounced_finish hu
    · exact debounced_finish hu

theorem execPowerGoodFall_debounced (k : Rail) : Debounced (execPowerGoodFall k s) :=
  debounced_upon h fun u hu => by
    split
    · exact debounced_finish_of_pad hu (railFault_pad k _)
    · exact debounced_finish hu

theorem execPgTimeoutExpiry_debounced : Debounced (execPgTimeoutExpiry s) :=
  debounced_upon h fun u hu => by
    split
    · split
      · exact debounced_finish_of_pad hu (railFault_pad _ _)
      · exact debounced_finish hu
    · exact debounced_finish hu

theorem execSettleExpiry_debounced : Debounced (execSettleExpiry s) :=
  debounced_upon h fun u hu => by
    split
    · split
      · exact debounced_finish_of_pad hu (settleEnds_pad _ _)
      · exact debounced_finish hu
    · exact debounced_finish hu

theorem execStableTimeReached_debounced : Debounced (execStableTimeReached s) :=
  debounced_upon h fun _ hu => debounced_expiry hu (by intro _; rfl) _

theorem execControlPeriodStart_debounced : Debounced (execControlPeriodStart s) :=
  debounced_upon h fun u hu => by
    split
    · exact debounced_finish_of_pad hu (startPeriod_pad _ _)
    · exact debounced_finish hu

theorem execDriveWindowEdge_debounced (z : Zone) : Debounced (execDriveWindowEdge z s) :=
  debounced_upon h fun u hu => by
    split
    · split
      · exact debounced_finish hu
      · split <;> exact debounced_finish hu
    · exact debounced_finish hu

theorem execScanStart_debounced : Debounced (execScanStart s) :=
  debounced_upon h fun u hu => by
    split
    · split <;> exact debounced_finish hu
    · exact debounced_finish hu

theorem execScanComplete_debounced (readings requestFirst : BitVec 64) :
    Debounced (execScanComplete readings requestFirst s) :=
  debounced_upon h fun u hu => by
    split
    · exact debounced_finish (processScan_law (s := { u with pad.scanning := false }) hu readings requestFirst)
    · exact debounced_finish hu

theorem execArmDelayExpiry_debounced (p : Position) : Debounced (execArmDelayExpiry p s) :=
  debounced_upon h fun u hu => by
    split
    · exact debounced_finish_of_pad hu (by simp [armExpires])
    · exact debounced_finish hu

theorem execLayerTick_debounced : Debounced (execLayerTick s) :=
  debounced_upon h fun u hu => by
    split
    · exact debounced_finish_of_pad hu (by simp [ageStack])
    · exact debounced_finish hu

theorem execSupervisorReset_debounced (tag : Tag) : Debounced (execSupervisorReset tag s) :=
  debounced_upon h fun _ hu => debounced_supervisorOp hu (applySupervisorReset_law hu) tag _

theorem execLoadKeypad_debounced (tag : Tag) (p : List Byte) (requestFirst : BitVec 64) :
    Debounced (execLoadKeypad tag p requestFirst s) :=
  debounced_load h fun _ u read _ =>
    applyLoadKeypad_law (KeypadRecord.ordered_of_inRange (readKeypad_inRange read)) requestFirst u

/-! ### The step -/

/-- Every command keeps N in its range; a power-on takes it from the stored image, whose keypad record is in range (0.5.7). -/
theorem exec_debounced (tables : TablesInRange s) (i : Instr) : Debounced (exec i s) := by
  cases i with
  | powerOn => rintro _ ⟨⟩; exact applyPower_law tables
  | powerLoss => rintro _ ⟨⟩; exact losePower_law s
  | imageLoadComplete => exact execImageLoadComplete_debounced h
  | read tag address length => exact execRead_debounced h tag address length
  | write tag address data => exact execWrite_debounced h tag address data
  | heartbeat tag seq => exact debounced_operation h (applyHeartbeat_pad seq)
  | hostRestart tag kind => exact debounced_operation h (applyHostRestart_pad kind)
  | shutdown tag keepWarm => exact debounced_operation h (applyShutdown_pad keepWarm)
  | loadSequence tag payload => exact debounced_load_of_pad h fun _ _ => rfl
  | loadLadder tag payload => exact debounced_load_of_pad h fun _ _ => rfl
  | loadZone tag payload => exact debounced_load_of_pad h applyLoadZone_pad
  | loadBudget tag payload => exact debounced_load_of_pad h applyLoadBudget_pad
  | loadChannel tag payload => exact debounced_load_of_pad h fun l u => by simp [applyLoadChannel]
  | loadPoll tag payload => exact debounced_load_of_pad h fun _ _ => rfl
  | loadAction tag payload => exact debounced_load_of_pad h applyLoadAction_pad
  | lockActions tag count protect => exact debounced_operation h (applyLockActions_pad count protect)
  | flushActions tag => exact debounced_operation h applyFlushActions_pad
  | loadWindow tag payload => exact debounced_load_of_pad h fun _ _ => rfl
  | loadKeypad tag payload requestFirst => exact execLoadKeypad_debounced h tag payload requestFirst
  | loadKeymapEntry tag payload => exact debounced_load_of_pad h fun _ _ => rfl
  | loadKeymapSettings tag payload => exact debounced_load_of_pad h fun _ _ => rfl
  | clearLayers tag => exact debounced_operation h fun _ => rfl
  | setFlags tag set clear => exact debounced_operation h (applySetFlags_pad set clear)
  | writeOutputs tag mode data => exact debounced_operation h (applyWriteOutputs_pad mode data)
  | setOutputMask tag plane foreground indicator =>
    exact debounced_operation h (applySetOutputMask_pad plane foreground indicator)
  | errorClear tag mask => exact debounced_operation h fun _ => rfl
  | setIgnore tag mask => exact debounced_operation h (applySetIgnore_pad mask)
  | counterSelect tag counter event => exact debounced_operation h (applyCounterSelect_pad counter event)
  | statusReadHost | statusReadLog | statusReadHeat | statusReadProbe | statusReadConditions | statusReadActions
  | statusReadKeypad | statusReadKeymap | statusReadRelay | statusReadOutputs | statusReadErrors | statusReadCounters
  | statusReadLink => exact debounced_status h _ _ _
  | storeImage tag speed => exact execStoreImage_debounced h tag speed
  | storeComplete => exact execStoreComplete_debounced h
  | supervisorReset tag => exact execSupervisorReset_debounced h tag
  | hostCheckFrame => exact debounced_upon h fun u hu => debounced_finish_of_pad hu (recordHostCheck_pad u)
  | malformedFrame tag op address =>
    exact debounced_upon h fun _ hu => debounced_finish (takeMalformed_law hu tag op address)
  | frameLengthAbandon => exact execFrameLengthAbandon_debounced h
  | frameIdleAbandon => exact execFrameIdleAbandon_debounced h
  | transmitComplete => exact execTransmitComplete_debounced h
  | preheatTimerExpiry => exact debounced_upon h fun _ hu => debounced_expiry hu forcedStartTest_pad _
  | soakTimerExpiry => exact debounced_upon h fun _ hu => debounced_expiry hu completeSoak_pad _
  | powerGoodArrival rail => exact execPowerGoodArrival_debounced h rail
  | pgTimeoutExpiry => exact execPgTimeoutExpiry_debounced h
  | settleExpiry => exact execSettleExpiry_debounced h
  | powerGoodFall rail => exact execPowerGoodFall_debounced h rail
  | drainTimerExpiry => exact debounced_upon h fun _ hu => debounced_expiry hu drainExpires_pad _
  | offSettleExpiry => exact debounced_upon h fun _ hu => debounced_expiry hu offSettleStep_pad _
  | wakeEdge => exact debounced_upon h fun u hu => debounced_finish_of_pad hu (wakeRequest_pad u)
  | bootWindowExpiry => exact debounced_upon h fun _ hu => debounced_expiry hu (escalate_pad .bootTimeout) _
  | heartbeatTimerExpiry => exact debounced_upon h fun _ hu => debounced_expiry hu enterWarn_pad _
  | graceExpiry => exact debounced_upon h fun _ hu => debounced_expiry hu (escalate_pad .watchdogExpiry) _
  | stableTimeReached => exact execStableTimeReached_debounced h
  | resetPulseExpiry => exact debounced_upon h fun _ hu => debounced_expiry hu enterBoot_pad _
  | powerOffExpiry => exact debounced_upon h fun _ hu => debounced_expiry hu enterPreheat_pad _
  | lockoutRetryExpiry => exact debounced_upon h fun _ hu => debounced_expiry hu exitLockout_pad _
  | controlPeriodStart => exact execControlPeriodStart_debounced h
  | driveWindowEdge zone => exact execDriveWindowEdge_debounced h zone
  | dueTimeReached channel => exact execDueTimeReached_debounced h channel
  | fieldReply bytes resultFirst => exact execFieldReply_debounced h bytes resultFirst
  | fieldTimeoutExpiry resultFirst => exact execFieldTimeoutExpiry_debounced h resultFirst
  | cPortReplyGap => exact execCPortReplyGap_debounced h
  | scanStart => exact execScanStart_debounced h
  | scanComplete readings requestFirst => exact execScanComplete_debounced h readings requestFirst
  | armDelayExpiry position => exact execArmDelayExpiry_debounced h position
  | layerTick => exact execLayerTick_debounced h
  | cPortRequestEnd => exact execCPortRequestEnd_debounced h

theorem step_debounced (tables : TablesInRange s) : Debounced (step s) := by
  unfold step
  split
  next i rest _ => exact exec_debounced (s := { s with pending := rest }) h tables i
  next =>
    rintro _ ⟨⟩
    exact h.of_pad (idle_pad s)

end Outcome

/-- Settles O19: the formula is the model's own over the integers; for the range, N is D_max or clamped to D_max from D_base
wherever the model writes it or the keypad record, and every other command leaves both alone. -/
theorem debounceCountFollowsTheColdRule : Obligations.DebounceCountFollowsTheColdRule := by
  unfold Obligations.DebounceCountFollowsTheColdRule
  refine ⟨fun r t _ => debounceCount_some r t, fun _ => rfl, fun _ => rfl, ?_, fun _ => temperatureBasis_no_zone,
    fun s t tables h next => step_debounced h tables t next⟩
  intro s z zone
  rw [temperatureBasis_zone zone]
  have absent := zoneReading_none_iff s z
  exact ⟨absent.1, fun present => ⟨rfl, fun e => present (absent.2 e)⟩⟩

end Sys2Proof.Machine
end

section
/-! SUPPORT. The effective output (R171): the word collected bit by bit, and the value of an output in each case of the
precedence. -/

namespace Sys2Proof.Machine

open Sys2Proof

/-! ### A word from its bits -/

theorem oneBit_getLsbD (b o : Fin 16) : (oneBit b).getLsbD o.val = decide (o = b) := by
  simp only [oneBit, BitVec.getLsbD_shiftLeft, BitVec.getLsbD_one, Fin.ext_iff]
  rw [Bool.eq_iff_iff]
  simp only [Bool.and_eq_true, Bool.not_eq_true', decide_eq_true_eq, decide_eq_false_iff_not]
  omega

theorem collect_getLsbD (f : Fin 16 → Bool) (o b : Fin 16) (w : Word) :
    (if f b then w ||| oneBit b else w).getLsbD o.val = (w.getLsbD o.val || (decide (o = b) && f o)) := by
  split
  next hf =>
    rw [BitVec.getLsbD_or, oneBit_getLsbD]
    by_cases ho : o = b
    · rw [ho, hf, Bool.and_true]
    · simp [ho]
  next hf =>
    by_cases ho : o = b
    · simp [ho, hf]
    · simp [ho]

/-- Collecting bits along a list sets a bit when it was set before or its place is visited. -/
theorem foldl_collect_getLsbD (f : Fin 16 → Bool) (o : Fin 16) (l : List (Fin 16)) (w : Word) :
    (l.foldl (fun w b => if f b then w ||| oneBit b else w) w).getLsbD o.val
      = (w.getLsbD o.val || (decide (o ∈ l) && f o)) := by
  induction l generalizing w with
  | nil => simp
  | cons b l ih =>
    rw [List.foldl_cons, ih, collect_getLsbD]
    simp only [List.mem_cons, Bool.decide_or, Bool.and_or_distrib_right, Bool.or_assoc]

theorem wordOf_getLsbD (f : Fin 16 → Bool) (o : Fin 16) : (wordOf f).getLsbD o.val = f o := by
  have clear : (0 : Word).getLsbD o.val = false := BitVec.getLsbD_zero
  rw [wordOf, foldl_collect_getLsbD, clear, decide_eq_true (List.mem_finRange o), Bool.false_or, Bool.true_and]

/-! ### The precedence (R171) -/

section Precedence

variable {s : State} {o : Fin 16}

theorem effectiveOutput_forcedOn (h : 0 < s.outs.forceOn[o]) : effectiveOutput s o = true := if_pos h

theorem effectiveOutput_forcedOff (hon : s.outs.forceOn[o] = 0) (h : 0 < s.outs.forceOff[o]) :
    effectiveOutput s o = false := by
  simp only [effectiveOutput, hon, lt_irrefl, if_false, if_pos h]

/-- Without a force, the indicator or the host word decides. -/
theorem effectiveOutput_unforced (hon : s.outs.forceOn[o] = 0) (hoff : s.outs.forceOff[o] = 0) :
    effectiveOutput s o
      = if s.outs.indicator && (o = 6 || o = 7) then indicatorAt s o else s.outs.hostWord.getLsbD o.val := by
  simp only [effectiveOutput, hon, hoff, lt_irrefl, if_false]

theorem effectiveOutput_indicator (hon : s.outs.forceOn[o] = 0) (hoff : s.outs.forceOff[o] = 0)
    (enabled : s.outs.indicator = true) (ho : o = 6 ∨ o = 7) : effectiveOutput s o = indicatorAt s o := by
  rw [effectiveOutput_unforced hon hoff, if_pos (by simpa [enabled] using ho)]

theorem effectiveOutput_hostWord (hon : s.outs.forceOn[o] = 0) (hoff : s.outs.forceOff[o] = 0)
    (h : s.outs.indicator = false ∨ (o ≠ 6 ∧ o ≠ 7)) : effectiveOutput s o = s.outs.hostWord.getLsbD o.val := by
  have unclaimed : (s.outs.indicator && (o = 6 || o = 7)) = false := by
    rcases h with disabled | ⟨h6, h7⟩
    · simp [disabled]
    · simp [h6, h7]
  rw [effectiveOutput_unforced hon hoff, unclaimed, if_neg Bool.false_ne_true]

end Precedence

/-! ### The layer indicator (R142) -/

theorem indicatorAt_six (s : State) : indicatorAt s 6 = true ↔ s.keymap.currentLayer.val % 2 = 1 := by
  simp [indicatorAt]

theorem indicatorAt_seven (s : State) : indicatorAt s 7 = true ↔ 2 ≤ s.keymap.currentLayer.val := by
  simp [indicatorAt]

/-- The current layer is that of the stack's top (R130). -/
theorem currentLayer_of_cons {k : Keymap} {top : StackEntry} {rest : List StackEntry} (h : k.stack = top :: rest) :
    k.currentLayer = top.layer := by
  simp only [Keymap.currentLayer, h]

theorem currentLayer_of_nil {k : Keymap} (h : k.stack = []) : k.currentLayer = 0 := by
  simp only [Keymap.currentLayer, h]

/-- Settles O28: one lemma per case of the precedence, and the word bit by bit (`wordOf_getLsbD`). -/
theorem effectiveOutputFollowsThePrecedence : Obligations.EffectiveOutputFollowsThePrecedence := by
  unfold Obligations.EffectiveOutputFollowsThePrecedence
  intro s o layer
  have current : layer = s.keymap.currentLayer.val := by
    cases h : s.keymap.stack with
    | nil => simp [layer, h, currentLayer_of_nil h]
    | cons top rest => simp [layer, h, currentLayer_of_cons h]
  refine ⟨effectiveOutput_forcedOn, effectiveOutput_forcedOff, ?_, ?_, effectiveOutput_hostWord, wordOf_getLsbD _ o⟩
  · rintro hon hoff enabled rfl
    rw [effectiveOutput_indicator hon hoff enabled (.inl rfl), current]
    exact indicatorAt_six s
  · rintro hon hoff enabled rfl
    rw [effectiveOutput_indicator hon hoff enabled (.inr rfl), current]
    exact indicatorAt_seven s

end Sys2Proof.Machine
end

section
/-! SUPPORT. The error record (R174 to R176) and the notice queue (R164): one lemma per case of a recording, of a handed notice,
of a notice dropped, and of a clear. -/

namespace Sys2Proof.Machine

open Sys2Proof

/-! ### The record takes a class (R174) -/

section Latch

variable {e : Errors} {c : ErrorClass} (time : Nat) (f : ErrorFields)

theorem Errors.latch_ignored (ignored : e.ignores c = true) : e.latch c time f = e := if_pos ignored

theorem Errors.latch_first (kept : e.ignores c = false) (absent : e.detail = none) :
    e.latch c time f =
      { e with flags := e.flags ||| oneBit c.bit, detail := some { cls := c, time := time, fields := f } } := by
  simp only [Errors.latch, kept, absent, Bool.false_eq_true, if_false]

theorem Errors.latch_again (kept : e.ignores c = false) (present : e.detail ≠ none) :
    e.latch c time f = { e with flags := e.flags ||| oneBit c.bit, multiple := true } := by
  obtain ⟨d, hd⟩ := Option.ne_none_iff_exists'.1 present
  simp only [Errors.latch, kept, hd, Bool.false_eq_true, if_false]

end Latch

/-- A recording freezes the detail exactly when its class is kept and no detail is frozen. -/
theorem Errors.freezes_iff {e : Errors} {c : ErrorClass} :
    e.freezes c = true ↔ e.ignores c = false ∧ e.detail = none := by
  simp [Errors.freezes]

theorem Errors.not_freezes_of_ignored {e : Errors} {c : ErrorClass} (ignored : e.ignores c = true) : ¬ e.freezes c = true :=
  fun h => Bool.false_ne_true ((Errors.freezes_iff.1 h).1.symm.trans ignored)

theorem Errors.not_freezes_of_present {e : Errors} {c : ErrorClass} (present : e.detail ≠ none) : ¬ e.freezes c = true :=
  fun h => present (Errors.freezes_iff.1 h).2

/-! ### Recording an error (R174, R175) -/

section Record

variable {s : State} {c : ErrorClass} (f : ErrorFields)

theorem latchError_ignored (ignored : s.errs.ignores c = true) : latchError c f s = s := by
  rw [latchError, Errors.latch_ignored _ f ignored]

theorem latchError_first (kept : s.errs.ignores c = false) (absent : s.errs.detail = none) :
    latchError c f s =
      { s with errs := { s.errs with
          flags := s.errs.flags ||| oneBit c.bit
          detail := some { cls := c, time := errorTime s, fields := f } } } := by
  rw [latchError, Errors.latch_first _ f kept absent]

theorem latchError_again (kept : s.errs.ignores c = false) (present : s.errs.detail ≠ none) :
    latchError c f s = { s with errs := { s.errs with flags := s.errs.flags ||| oneBit c.bit, multiple := true } } := by
  rw [latchError, Errors.latch_again _ f kept present]

theorem recordError_ignored (ignored : s.errs.ignores c = true) : recordError c f s = s := by
  rw [recordError, if_neg (Errors.not_freezes_of_ignored ignored), latchError_ignored f ignored]

theorem recordError_first (kept : s.errs.ignores c = false) (absent : s.errs.detail = none) :
    recordError c f s =
      handNotice (.error { cls := c, time := errorTime s, fields := f } (s.errs.flags ||| oneBit c.bit))
        (latchError c f s) := by
  rw [recordError, if_pos (Errors.freezes_iff.2 ⟨kept, absent⟩), latchError_first f kept absent]

theorem recordError_present (present : s.errs.detail ≠ none) :
    recordError c f s = latchError c f s := by
  rw [recordError, if_neg (Errors.not_freezes_of_present present)]

end Record

/-! ### Handing a notice (R164, R165) -/

section Notices

variable {s : State}

theorem handNotice_not_generated (n : Notice) (gated : s.hpc.host.delivers = false) : handNotice n s = s := by
  rw [handNotice, gated, if_neg Bool.false_ne_true]

theorem handNotice_queued (n : Notice) (delivers : s.hpc.host.delivers = true) (room : s.panel.notices.length < 16) :
    handNotice n s = startTransmit { s with panel := { s.panel with notices := s.panel.notices ++ [n] } } := by
  rw [handNotice, if_pos delivers]
  exact if_pos room

theorem handNotice_full (n : Notice) (delivers : s.hpc.host.delivers = true) (full : 16 ≤ s.panel.notices.length) :
    handNotice n s = dropNotice n.code s := by
  rw [handNotice, if_pos delivers]
  exact if_neg (Nat.not_lt.2 full)

/-- While NOTICE_LOST is ignored a drop is only counted. -/
theorem dropNotice_ignored (code : Nat) (ignored : s.errs.ignores .noticeLost = true) :
    dropNotice code s = countEvent .noticesLost s := by
  rw [dropNotice, if_neg (Errors.not_freezes_of_ignored ignored), dropOnce,
    latchError_ignored (s := countEvent .noticesLost s) _ ignored]

theorem dropOnce_first (code : Nat) (kept : s.errs.ignores .noticeLost = false) (absent : s.errs.detail = none) :
    dropOnce code s =
      { countEvent .noticesLost s with
        errs := { s.errs with
          flags := s.errs.flags ||| oneBit 11
          detail := some { cls := .noticeLost, time := errorTime s, fields := { index := some code } } } } :=
  latchError_first (s := countEvent .noticesLost s) _ kept absent

theorem dropOnce_again (code : Nat) (kept : s.errs.ignores .noticeLost = false) (present : s.errs.detail ≠ none) :
    dropOnce code s =
      { countEvent .noticesLost s with
        errs := { s.errs with flags := s.errs.flags ||| oneBit 11, multiple := true } } :=
  latchError_again (s := countEvent .noticesLost s) _ kept present

/-- With a detail frozen a drop sets NOTICE_LOST and MULTIPLE. -/
theorem dropNotice_again (code : Nat) (kept : s.errs.ignores .noticeLost = false) (present : s.errs.detail ≠ none) :
    dropNotice code s =
      { countEvent .noticesLost s with
        errs := { s.errs with flags := s.errs.flags ||| oneBit 11, multiple := true } } := by
  rw [dropNotice, if_neg (Errors.not_freezes_of_present present), dropOnce_again code kept present]

/-- A drop that freezes the detail drops the ERROR notice of that freeze too, which sets MULTIPLE: both are counted, and the
detail is that of the first. -/
theorem dropNotice_first (code : Nat) (kept : s.errs.ignores .noticeLost = false) (absent : s.errs.detail = none) :
    dropNotice code s =
      { countEvent .noticesLost (countEvent .noticesLost s) with
        errs := { s.errs with
          flags := s.errs.flags ||| oneBit 11
          multiple := true
          detail := some { cls := .noticeLost, time := errorTime s, fields := { index := some code } } } } := by
  have once := dropOnce_first code kept absent
  have twice := dropOnce_again (s := dropOnce code s) 0x05 (by rw [once]; exact kept)
    (by rw [once]; exact Option.some_ne_none _)
  have flags : (s.errs.flags ||| oneBit 11) ||| oneBit 11 = s.errs.flags ||| oneBit 11 := by
    rw [BitVec.or_assoc, BitVec.or_self]
  rw [dropNotice, if_pos (Errors.freezes_iff.2 ⟨kept, absent⟩), twice, once]
  simp only [countEvent, flags]

end Notices

/-- Settles O29: the cases of a recording, and those of a handed notice with the drops of a full queue. -/
theorem errorsFreezeOnceAndNoticesQueue : Obligations.ErrorsFreezeOnceAndNoticesQueue := by
  unfold Obligations.ErrorsFreezeOnceAndNoticesQueue
  intro s
  constructor
  · intro c f
    refine ⟨recordError_ignored f, fun kept absent => ?_, fun kept present => ?_⟩
    · rw [recordError_first f kept absent, latchError_first f kept absent]
      rfl
    · rw [recordError_present f present, latchError_again f kept present]
  · intro n
    refine ⟨handNotice_not_generated n, handNotice_queued n, fun delivers full => ?_⟩
    rw [handNotice_full n delivers full]
    exact ⟨dropNotice_ignored n.code, dropNotice_again n.code, dropNotice_first n.code⟩

/-! ### ERROR_CLEAR and SET_IGNORE (R176) -/

/-- The frozen detail's class is in the mask. -/
def Errors.detailIn (mask : Word) (e : Errors) : Bool := e.detail.any fun d => mask.getLsbD d.cls.bit

/-- A clear takes the masked flags, and the detail with MULTIPLE when its class is in the mask. -/
theorem Errors.clear_eq (mask : Word) (e : Errors) :
    e.clear mask =
      { flags := e.flags &&& ~~~mask, ignore := e.ignore
        detail := if e.detailIn mask then none else e.detail, multiple := e.multiple && !e.detailIn mask } := by
  cases hd : e.detail with
  | none => simp [Errors.clear, Errors.detailIn, hd]
  | some d =>
    have inMask : e.detailIn mask = mask.getLsbD d.cls.bit := by rw [Errors.detailIn, hd, Option.any_some]
    rw [inMask]
    cases hm : mask.getLsbD d.cls.bit with
    | false => simp only [Errors.clear, hd, hm, Bool.false_eq_true, if_false, Bool.not_false, Bool.and_true]
    | true => simp only [Errors.clear, hd, hm, if_true, Bool.not_true, Bool.and_false]

theorem exec_errorClear {s : State} (h : Calm s) (tag : Tag) (mask : Word) :
    exec (.errorClear tag mask) s = supervisorOp tag 0x48 (applyErrorClear mask) s := by
  change execErrorClear tag mask s = _
  rw [execErrorClear, upon_calm h]

theorem exec_setIgnore {s : State} (h : Calm s) (tag : Tag) (mask : Word) :
    exec (.setIgnore tag mask) s = supervisorOp tag 0x49 (applySetIgnore mask) s := by
  change execSetIgnore tag mask s = _
  rw [execSetIgnore, upon_calm h]

theorem applySetIgnore_storing {s : State} (storing : s.imageState.isStoring = true) (mask : Word) :
    applySetIgnore mask s = (s, .refuse .state) := if_pos storing

theorem applySetIgnore_taken {s : State} (storing : s.imageState.isStoring = false) (mask : Word) :
    applySetIgnore mask s = ({ s with errs := { s.errs with ignore := mask } }, .done) := by
  rw [applySetIgnore, storing, if_neg Bool.false_ne_true]

/-- Settles O30: the owner's answer in each case, placed as the reply (`supervisorOp_replied`). -/
theorem errorClearAndSetIgnore : Obligations.ErrorClearAndSetIgnore := by
  unfold Obligations.ErrorClearAndSetIgnore
  intro s tag mask ⟨accepts, calm⟩ frozen e
  have delivers : s.hpc.host.delivers = true := accepts.1
  have isFrozen : s.errs.detailIn mask = frozen := by
    cases hd : s.errs.detail <;> simp [Errors.detailIn, frozen, hd]
  rw [exec_errorClear calm, exec_setIgnore calm]
  refine ⟨?_, fun storing => ?_, fun storing => ?_⟩
  · have clear : s.errs.clear mask = e := by rw [Errors.clear_eq, isFrozen]
    have owner : applyErrorClear mask s = ({ s with errs := e }, { status := .done, payload := wordBytes e.flags }) := by
      rw [applyErrorClear, clear]
    exact supervisorOp_replied accepts tag _ owner delivers (by decide)
  · exact supervisorOp_replied accepts tag _ (applySetIgnore_storing storing mask) delivers (by decide)
  · exact supervisorOp_replied accepts tag _ (applySetIgnore_taken storing mask) delivers (by decide)

end Sys2Proof.Machine
end

section
/-! SUPPORT. The records that payloads spell (R159): every reader answers a record in its ranges (0.5.7), and reads back the
bytes that spell one. -/

namespace Sys2Proof.Machine

open Sys2Proof

/-! ### Ranges (0.5.7) -/

theorem checked_eq_some {α : Type} {inRange : α → Bool} {r v : α} (h : checked inRange r = some v) : inRange v = true := by
  obtain ⟨fits, hv⟩ := Option.ite_none_right_eq_some.1 h
  exact Option.some.inj hv ▸ fits

/-- Whatever a reader answers, it has the property. -/
def Answers {α : Type} (P : α → Prop) (o : Option α) : Prop := ∀ v, o = some v → P v

theorem answers_checked {α : Type} (inRange : α → Bool) (r : α) : Answers (fun v => inRange v = true) (checked inRange r) :=
  fun _ => checked_eq_some

/-- A field read first does not matter to what the rest of the reader answers. -/
theorem answers_bind {α β : Type} {P : β → Prop} {x : Option α} {f : α → Option β} (h : ∀ a, Answers P (f a)) :
    Answers P (x >>= f) := by
  intro v hv
  obtain ⟨a, -, ha⟩ := Option.bind_eq_some_iff.1 hv
  exact h a v ha

theorem answers_map {α β : Type} {P : β → Prop} {x : Option α} {f : α → β} (h : Answers (fun a => P (f a)) x) :
    Answers P (x.map f) := by
  intro v hv
  obtain ⟨a, ha, rfl⟩ := Option.map_eq_some_iff.1 hv
  exact h a ha

theorem readSequence_answers (p : List Byte) : Answers (fun r => r.inRange = true) (readSequence p) := by
  unfold readSequence
  iterate 10 refine answers_bind fun _ => ?_
  exact answers_checked _ _

theorem readLadder_answers (p : List Byte) : Answers (fun r => r.inRange = true) (readLadder p) := by
  unfold readLadder
  iterate 12 refine answers_bind fun _ => ?_
  exact answers_checked _ _

theorem readZone_answers (p : List Byte) : Answers (fun l => l.record.inRange = true) (readZone p) := by
  unfold readZone
  iterate 18 refine answers_bind fun _ => ?_
  exact answers_map (answers_checked _ _)

theorem readBudget_answers (p : List Byte) : Answers (fun r => r.inRange = true) (readBudget p) := by
  unfold readBudget
  iterate 4 refine answers_bind fun _ => ?_
  exact answers_checked _ _

theorem readChannel_answers (p : List Byte) : Answers (fun l => l.entry.inRange = true) (readChannel p) := by
  unfold readChannel
  iterate 8 refine answers_bind fun _ => ?_
  exact answers_map (answers_checked _ _)

theorem readPoll_answers (p : List Byte) : Answers (fun r => r.inRange = true) (readPoll p) := by
  unfold readPoll
  iterate 4 refine answers_bind fun _ => ?_
  exact answers_checked _ _

theorem readWindow_answers (p : List Byte) : Answers (fun l => l.entry.inRange = true) (readWindow p) := by
  unfold readWindow
  iterate 7 refine answers_bind fun _ => ?_
  exact answers_map (answers_checked _ _)

theorem readKeyFields_answers (kind : KeyKind) (p : List Byte) :
    Answers (fun e => e.inRange = true) (readKeyFields kind p) := by
  cases kind with
  | none | transparent | clearOne | clearAll => rintro _ ⟨⟩; rfl
  | plain => exact answers_bind fun _ => answers_checked _ _
  | layer =>
    exact answers_bind fun _ => answers_bind fun _ => answers_bind fun _ => answers_bind fun _ => answers_checked _ _
  | service => exact answers_bind fun _ => answers_bind fun _ => answers_checked _ _

theorem readKeymapEntry_answers (p : List Byte) : Answers (fun l => l.entry.inRange = true) (readKeymapEntry p) := by
  unfold readKeymapEntry
  iterate 4 refine answers_bind fun _ => ?_
  exact answers_map (readKeyFields_answers _ _)

theorem readKeymapSettings_answers (p : List Byte) : Answers (fun t => layerTimeoutInRange t = true) (readKeymapSettings p) := by
  have absent : Answers (fun t => layerTimeoutInRange t = true) none := fun t h => absurd h.symm (Option.some_ne_none t)
  unfold readKeymapSettings
  split
  · split
    · split
      · exact answers_checked _ _
      · exact absent
    · exact absent
  · exact absent

/-! ### Action table entries (R74, R75) -/

/-- An entry in range under the key it was read with. -/
def ReadUnder (key : Nat) (e : ActionEntry) : Prop := e.inRange = true ∧ e.key = key

theorem answers_checked_entry (e : ActionEntry) : Answers (ReadUnder e.key) (checked ActionEntry.inRange e) := by
  intro v h
  obtain ⟨fits, hv⟩ := Option.ite_none_right_eq_some.1 h
  obtain rfl := Option.some.inj hv
  exact ⟨fits, rfl⟩

theorem readSampleRule_answers (c : Channel) (p : List Byte) : Answers (ReadUnder c.val) (readSampleRule c p) := by
  unfold readSampleRule
  iterate 8 refine answers_bind fun _ => ?_
  exact answers_checked_entry _

theorem readGuardRule_answers (w : Fin 8) (p : List Byte) : Answers (ReadUnder (16 + w.val)) (readGuardRule w p) := by
  unfold readGuardRule
  iterate 2 refine answers_bind fun _ => ?_
  exact answers_checked_entry _

theorem readActionFields_answers (key : Fin 24) (p : List Byte) : Answers (ReadUnder key.val) (readActionFields key p) := by
  unfold readActionFields
  split
  · exact readSampleRule_answers _ p
  · next h =>
    have named : 16 + (key.val - 16) = key.val := by omega
    have read := readGuardRule_answers ⟨key.val - 16, by omega⟩ p
    rwa [named] at read

/-- An entry fits the set that a load names: its fields are in range and its key selects that set (R74). -/
def ActionLoad.Fits (l : ActionLoad) : Prop := ∀ e, l.entry = some e → e.inRange = true ∧ e.key % 8 = l.set.val

theorem readAction_answers (p : List Byte) :
    Answers (fun l => l.Fits ∧ (l.entry = none → l.selector ≠ .any)) (readAction p) := by
  unfold readAction
  refine answers_bind fun selector => answers_bind fun valid => answers_bind fun key => ?_
  dsimp only
  split
  · refine answers_map fun e read => ?_
    obtain ⟨fits, hkey⟩ := readActionFields_answers key.1 key.2 e read
    refine ⟨fun e' he' => ?_, fun absent => absurd absent (Option.some_ne_none e)⟩
    obtain rfl := Option.some.inj he'
    exact ⟨fits, by rw [hkey, keySet]⟩
  · split
    · exact fun l h => absurd h.symm (Option.some_ne_none l)
    · next named =>
      intro l hl
      obtain rfl := Option.some.inj hl
      exact ⟨fun e h => absurd h.symm (Option.some_ne_none e), fun _ => named⟩

/-- Settles O9: every reader ends in a check of its record's ranges. -/
theorem noPayloadReadsOutOfRange : Obligations.NoPayloadReadsOutOfRange := by
  unfold Obligations.NoPayloadReadsOutOfRange
  exact ⟨readSequence_answers, readLadder_answers, readZone_answers, readBudget_answers, readChannel_answers,
    readPoll_answers, readAction_answers, readWindow_answers, fun _ _ => readKeypad_inRange, readKeymapEntry_answers,
    readKeymapSettings_answers⟩

end Sys2Proof.Machine
end

section
/-! SUPPORT. The LOAD payloads read back (R159): field by field, each reader answers the field its bytes spell and leaves the
rest of the payload to the next. -/

namespace Sys2Proof.Machine

open Sys2Proof

/-- A reader whose first field is read goes on with the rest of the payload. -/
theorem bind_field {α β : Type} {x : Option α} {a : α} {f : α → Option β} {o : Option β} (h : x = some a) (k : f a = o) :
    (x >>= f) = o := by
  rw [h]
  exact k

theorem map_read {α β : Type} {x : Option α} {a : α} (f : α → β) (h : x = some a) : x.map f = some (f a) := by
  rw [h, Option.map_some]

theorem checked_inRange {α : Type} {inRange : α → Bool} {r : α} (h : inRange r = true) : checked inRange r = some r := if_pos h

theorem takeRailTimes_railTimeBytes {v : Vector Nat 3} (h : ∀ k : Rail, v[k] ≤ 65535) (p : List Byte) :
    takeRailTimes (railTimeBytes v ++ p) = some (v, p) := by
  simp only [railTimeBytes, List.append_assoc]
  refine bind_field (take2_byte2 (h 0) _) (bind_field (take2_byte2 (h 1) _) (bind_field (take2_byte2 (h 2) _) ?_))
  have same : #v[v[0], v[1], v[2]] = v := by
    ext k hk
    interval_cases k <;> rfl
  exact congrArg (fun w => some (w, p)) same

theorem readSequence_sequenceBytes {r : SequenceRecord} (h : r.inRange = true) : readSequence (sequenceBytes r) = some r := by
  have ranges := h
  simp only [SequenceRecord.inRange, Bool.and_eq_true, decide_eq_true_eq, List.all_eq_true] at ranges
  obtain ⟨⟨⟨⟨⟨⟨⟨⟨⟨-, rails⟩, soak⟩, -⟩, preheat⟩, hysteresis⟩, -⟩, drain⟩, -⟩, settle⟩ := ranges
  have pg (k : Rail) : r.pgTimeout[k] ≤ 65535 := by
    have := rails k (by fin_cases k <;> simp)
    omega
  have settles (k : Rail) : r.settle[k] ≤ 65535 := by
    have := rails k (by fin_cases k <;> simp)
    omega
  have mask : #v[r.railMask[0], r.railMask[1], r.railMask[2]] = r.railMask := by
    ext k hk
    interval_cases k <;> rfl
  rw [← List.append_nil (sequenceBytes r)]
  simp only [sequenceBytes, List.append_assoc]
  refine bind_field (takeRails_flags ..) (bind_field (takeRailTimes_railTimeBytes pg _) (bind_field
    (takeRailTimes_railTimeBytes settles _) (bind_field (take2_byte2 (by omega) _) (bind_field (take2_byte2 (by omega) _)
    (bind_field (take1_byte1 (by omega) _) (bind_field (takeBool_boolByte ..) (bind_field (takeBool_boolByte ..)
    (bind_field (take2_byte2 (by omega) _) (bind_field (take2_byte2 (by omega) _) ?_)))))))))
  simp only [mask]
  exact checked_inRange h

theorem readLadder_ladderBytes {r : LadderRecord} (h : r.inRange = true) : readLadder (ladderBytes r) = some r := by
  have ranges := h
  simp only [LadderRecord.inRange, Bool.and_eq_true, decide_eq_true_eq] at ranges
  have policy : r.policy ∈ lockoutPolicies := by cases r.policy <;> decide
  rw [← List.append_nil (ladderBytes r)]
  simp only [ladderBytes, List.append_assoc]
  refine bind_field (take2_byte2 (by omega) _) (bind_field (take2_byte2 (by omega) _) (bind_field (take2_byte2 (by omega) _)
    (bind_field (take2_byte2 (by omega) _) (bind_field (take2_byte2 (by omega) _) (bind_field (take1_byte1 (by omega) _)
    (bind_field (take1_byte1 (by omega) _) (bind_field (take1_byte1 (by omega) _) (bind_field (take2_byte2 (by omega) _)
    (bind_field (take1_byte1 (by omega) _) (bind_field (takeNamed_codeOf policy (by decide) _)
    (bind_field (take2_byte2 (by omega) _) ?_)))))))))))
  exact checked_inRange h

theorem readZone_zoneBytes {l : ZoneLoad} (h : l.record.inRange = true) : readZone (zoneBytes l) = some l := by
  have ranges := h
  simp only [ZoneRecord.inRange, Bool.and_eq_true, decide_eq_true_eq] at ranges
  rw [← List.append_nil (zoneBytes l)]
  simp only [zoneBytes, zoneRecordBytes, List.append_assoc]
  refine bind_field (takeFin_byte1 (by decide) _ _) (bind_field (takeBool_boolByte ..) (bind_field
    (takeFin_byte1 (by decide) _ _) (bind_field (takeInt2_int2 (by omega) (by omega) _) (bind_field
    (take2_byte2 (by omega) _) (bind_field (takeInt2_int2 (by omega) (by omega) _) (bind_field
    (take2_byte2 (by omega) _) (bind_field (takeFin_byte1 (by decide) _ _) (bind_field (takeBool_boolByte ..) (bind_field
    (takeInt2_int2 (by omega) (by omega) _) (bind_field (takeInt2_int2 (by omega) (by omega) _) (bind_field
    (takeBool_boolByte ..) (bind_field (takeInt2_int2 (by omega) (by omega) _) (bind_field (take1_byte1 (by omega) _)
    (bind_field (take1_byte1 (by omega) _) (bind_field (take1_byte1 (by omega) _) (bind_field (take1_byte1 (by omega) _)
    (bind_field (take1_byte1 (by omega) _) ?_)))))))))))))))))
  exact map_read _ (checked_inRange h)

theorem readBudget_budgetBytes {b : BudgetRecord} (h : b.inRange = true) : readBudget (budgetBytes b) = some b := by
  have ranges := h
  simp only [BudgetRecord.inRange, Bool.and_eq_true, decide_eq_true_eq] at ranges
  rw [← List.append_nil (budgetBytes b)]
  simp only [budgetBytes, List.append_assoc]
  refine bind_field (take2_byte2 (by omega) _) (bind_field (take2_byte2 (by omega) _) (bind_field (take2_byte2 (by omega) _)
    (bind_field (take2_byte2 (by omega) _) ?_)))
  exact checked_inRange h

theorem readChannel_channelBytes {l : ChannelLoad} (h : l.entry.inRange = true) : readChannel (channelBytes l) = some l := by
  have ranges := h
  simp only [ChannelEntry.inRange, Bool.and_eq_true, decide_eq_true_eq] at ranges
  have kind : l.entry.kind ∈ channelKinds := by cases l.entry.kind <;> decide
  have interval : l.entry.interval ∈ intervalClasses := by cases l.entry.interval <;> decide
  rw [← List.append_nil (channelBytes l)]
  simp only [channelBytes, channelEntryBytes, List.append_assoc]
  refine bind_field (takeFin_byte1 (by decide) _ _) (bind_field (takeBool_boolByte ..) (bind_field
    (take1_byte1 (by omega) _) (bind_field (take1_byte1 (by omega) _) (bind_field (takeNamed_codeOf kind (by decide) _)
    (bind_field (takeNamed_codeOf interval (by decide) _) (bind_field (takeBool_boolByte ..) (bind_field
    (take1_byte1 (by omega) _) ?_)))))))
  exact map_read _ (checked_inRange h)

theorem readPoll_pollBytes {r : PollRecord} (h : r.inRange = true) : readPoll (pollBytes r) = some r := by
  have ranges := h
  simp only [PollRecord.inRange, Bool.and_eq_true, decide_eq_true_eq] at ranges
  rw [← List.append_nil (pollBytes r)]
  simp only [pollBytes, List.append_assoc]
  refine bind_field (take2_byte2 (by omega) _) (bind_field (take2_byte2 (by omega) _) (bind_field (take2_byte2 (by omega) _)
    (bind_field (take1_byte1 (by omega) _) ?_)))
  exact checked_inRange h

theorem readWindow_windowBytes {l : WindowLoad} (h : l.entry.inRange = true) : readWindow (windowBytes l) = some l := by
  have ranges := h
  simp only [WindowEntry.inRange, Bool.and_eq_true, decide_eq_true_eq] at ranges
  have access : l.entry.access ∈ accesses := by cases l.entry.access <;> decide
  rw [← List.append_nil (windowBytes l)]
  simp only [windowBytes, windowEntryBytes, List.append_assoc]
  refine bind_field (takeFin_byte1 (by decide) _ _) (bind_field (takeBool_boolByte ..) (bind_field (takeWord_wordBytes ..)
    (bind_field (takeWord_wordBytes ..) (bind_field (take1_byte1 (by omega) _) (bind_field (take1_byte1 (by omega) _)
    (bind_field (takeNamed_codeOf access (by decide) _) ?_))))))
  exact map_read _ (checked_inRange h)

theorem readKeypad_keypadBytes {r : KeypadRecord} (h : r.inRange = true) : readKeypad (keypadBytes r) = some r := by
  have ranges := h
  simp only [KeypadRecord.inRange, Bool.and_eq_true, decide_eq_true_eq] at ranges
  have zone : r.zone ∈ keypadZones := by
    cases r.zone with
    | none => decide
    | some z => fin_cases z <;> decide
  rw [← List.append_nil (keypadBytes r)]
  simp only [keypadBytes, List.append_assoc]
  refine bind_field (take1_byte1 (by omega) _) (bind_field (take1_byte1 (by omega) _) (bind_field (take1_byte1 (by omega) _)
    (bind_field (take1_byte1 (by omega) _) (bind_field (take1_byte1 (by omega) _) (bind_field
    (takeNamed_codeOf zone (by decide) _) (bind_field (takeBool_boolByte ..) ?_))))))
  exact checked_inRange h

/-! ### Action table entries (R74, R75) -/

theorem readSampleRule_bytes {r : SampleRule} (h : (ActionEntry.sample r).inRange = true) (p : List Byte) :
    readSampleRule r.channel (actionFieldBytes (.sample r) ++ p) = some (.sample r) := by
  have ranges := h
  simp only [ActionEntry.inRange, Bool.and_eq_true, decide_eq_true_eq] at ranges
  have compare : r.compare ∈ compares := by cases r.compare <;> decide
  have stale : r.stale ∈ stalePolicies := by cases r.stale <;> decide
  simp only [actionFieldBytes, List.append_assoc]
  refine bind_field (takeFin_byte1 (by decide) _ _) (bind_field (takeNamed_codeOf compare (by decide) _) (bind_field
    (takeInt4_int4 (by omega) (by omega) _) (bind_field (take2_byte2 (by omega) _) (bind_field
    (takeNamed_codeOf stale (by decide) _) (bind_field (takeEdge_edgeBytes ..) (bind_field (takeLevel_levelBytes ..)
    (bind_field (takeBool_boolByte ..) ?_)))))))
  exact checked_inRange h

/-- The op mask of a guard rule is read back. -/
theorem takeFin_opMask (x y : Bool) (p : List Byte) :
    takeFin 4 (flagsByte [x, y] ++ p) = some (⟨x.toNat + 2 * y.toNat, by cases x <;> cases y <;> decide⟩, p) := by
  cases x <;> cases y <;> rfl

theorem readGuardRule_bytes {g : GuardRule} (h : (ActionEntry.guard g).inRange = true) (p : List Byte) :
    readGuardRule g.window (actionFieldBytes (.guard g) ++ p) = some (.guard g) := by
  simp only [actionFieldBytes, List.append_assoc]
  refine bind_field (takeFin_byte1 (by decide) _ _) (bind_field (takeFin_opMask ..) ?_)
  have mask (x y : Bool) : decide ((x.toNat + 2 * y.toNat) % 2 = 1) = x ∧ decide (2 ≤ x.toNat + 2 * y.toNat) = y := by
    cases x <;> cases y <;> decide
  simp only [mask]
  exact checked_inRange h

/-- The key of an entry is one of the 24. -/
theorem ActionEntry.key_lt (e : ActionEntry) : e.key < 24 := by
  cases e with
  | sample r => simp only [ActionEntry.key]; omega
  | guard g => simp only [ActionEntry.key]; omega

theorem readActionFields_bytes {e : ActionEntry} (h : e.inRange = true) (p : List Byte) :
    readActionFields ⟨e.key, e.key_lt⟩ (actionFieldBytes e ++ p) = some e := by
  cases e with
  | sample r => simpa [readActionFields, ActionEntry.key] using readSampleRule_bytes h p
  | guard g => simpa [readActionFields, ActionEntry.key] using readGuardRule_bytes h p

theorem takeSelector_selectorByte (w : WaySelector) (p : List Byte) :
    takeSelector (selectorByte w ++ p) = some (w, p) := by
  cases w with
  | way w => fin_cases w <;> rfl
  | any => rfl

theorem readAction_actionBytes {l : ActionLoad} (fits : l.Fits) (named : l.entry = none → l.selector ≠ .any) :
    readAction (actionBytes l) = some l := by
  simp only [actionBytes, padTo, List.append_assoc]
  refine bind_field (takeSelector_selectorByte ..) ?_
  cases he : l.entry with
  | some e =>
    obtain ⟨ranges, set⟩ := fits e he
    have key := takeFin_byte1 (n := 24) (by decide) ⟨e.key, e.key_lt⟩
    simp only [entryRecordBytes, List.append_assoc]
    refine bind_field (takeBool_boolByte ..) (bind_field (key _) ?_)
    simp only [if_true, readActionFields_bytes ranges, Option.map_some, keySet, set]
    rw [← he]
  | none =>
    have key := takeFin_byte1 (n := 24) (by decide) ⟨l.set.val, by omega⟩
    simp only [entryRecordBytes, List.append_assoc]
    refine bind_field (takeBool_boolByte ..) (bind_field (key _) ?_)
    simp [named he, keySet, Nat.mod_eq_of_lt l.set.isLt, ← he]

/-! ### Key map entries (R128) -/

theorem readKeyFields_bytes {e : KeyEntry} (h : e.inRange = true) (p : List Byte) :
    readKeyFields e.kind (keyFieldBytes e ++ p) = some e := by
  cases e with
  | none | transparent | clearOne | clearAll => rfl
  | plain code =>
    have ranges := h
    simp only [KeyEntry.inRange, Bool.and_eq_true, decide_eq_true_eq] at ranges
    exact bind_field (take1_byte1 (by omega) _) (checked_inRange h)
  | layer l t count delay =>
    have ranges := h
    simp only [KeyEntry.inRange, Bool.and_eq_true, decide_eq_true_eq] at ranges
    simp only [keyFieldBytes, List.append_assoc]
    exact bind_field (takeFin_byte1 (by decide) _ _) (bind_field (takeFin_byte1 (by decide) _ _) (bind_field
      (take1_byte1 (by omega) _) (bind_field (take2_byte2 (by omega) _) (checked_inRange h))))
  | service f c =>
    simp only [keyFieldBytes, List.append_assoc]
    exact bind_field (takeFunction_functionBytes ..) (bind_field (takeFin_byte1 (by decide) _ _) (checked_inRange h))

theorem readKeymapEntry_keymapBytes {l : KeymapLoad} (h : l.entry.inRange = true) :
    readKeymapEntry (keymapBytes l) = some l := by
  have kind : l.entry.kind ∈ keyKinds := by cases l.entry.kind <;> decide
  have form := takeFin_byte1 (n := 1) (by decide) 0
  simp only [keymapBytes, keyEntryBytes, padTo, List.append_assoc]
  refine bind_field (form _) (bind_field (takeFin_byte1 (by decide) _ _) (bind_field (takeFin_byte1 (by decide) _ _)
    (bind_field (takeNamed_codeOf kind (by decide) _) ?_)))
  exact map_read _ (readKeyFields_bytes h _)

theorem readKeymapSettings_keymapSettingsBytes {t : Nat} (h : layerTimeoutInRange t = true) :
    readKeymapSettings (keymapSettingsBytes t) = some t := by
  have ranges := h
  simp only [layerTimeoutInRange, Bool.and_eq_true, decide_eq_true_eq] at ranges
  have read := take2_byte2 (n := t) (by omega) []
  rw [List.append_nil] at read
  simp [readKeymapSettings, keymapSettingsBytes, byte1, read, checked_inRange h]

/-- Settles O8: one lemma per record. -/
theorem everyLoadPayloadReadsBack : Obligations.EveryLoadPayloadReadsBack := by
  unfold Obligations.EveryLoadPayloadReadsBack
  exact ⟨fun _ => readSequence_sequenceBytes, fun _ => readLadder_ladderBytes, fun _ => readZone_zoneBytes,
    fun _ => readBudget_budgetBytes, fun _ => readChannel_channelBytes, fun _ => readPoll_pollBytes,
    fun _ => readAction_actionBytes, fun _ => readWindow_windowBytes, fun _ => readKeypad_keypadBytes,
    fun _ => readKeymapEntry_keymapBytes, fun _ => readKeymapSettings_keymapSettingsBytes⟩

end Sys2Proof.Machine
end

section
/-! SUPPORT. A change of host state as one update (R25, R66, R95, R108, R141, R155, R160, R166, R173). -/

namespace Sys2Proof.Machine

open Sys2Proof

/-! ### The host states -/

theorem HostState.not_delivers_of_restartEvent {h : HostState} (e : h.restartEvent = true) : h.delivers = false := by
  cases h <;> first | rfl | exact absurd e Bool.false_ne_true

theorem HostState.not_running_of_restartEvent {h : HostState} (e : h.restartEvent = true) : h.running = false := by
  cases h <;> first | rfl | exact absurd e Bool.false_ne_true

theorem HostState.not_keysReported_of_restartEvent {h : HostState} (e : h.restartEvent = true) : h.keysReported = false := by
  cases h <;> first | rfl | exact absurd e Bool.false_ne_true

theorem HostState.not_keepWarm_of_not_restartEvent {h : HostState} (e : h.restartEvent = false) : h.keepWarm = false := by
  cases h <;> first | rfl | exact absurd e.symm Bool.false_ne_true

theorem HostState.delivers_of_running {h : HostState} (e : h.running = true) : h.delivers = true := by
  cases h <;> first | rfl | exact absurd e.symm Bool.noConfusion

/-! ### The budget in force (R25) -/

/-- An immediate recomputation changes the allocator alone. -/
theorem immediateRecompute_eq (s : State) : immediateRecompute s = { s with heat := (immediateRecompute s).heat } := rfl

theorem adoptHost_eq (new : HostState) (s : State) :
    adoptHost new s = { s with hpc := { s.hpc with host := new }, heat := budgeted new s } := by
  by_cases h : s.heat.budget.inForce new < s.heat.budget.inForce s.hpc.host
  · exact (if_pos h).trans (by rw [budgeted, if_pos h]; rfl)
  · exact (if_neg h).trans (by rw [budgeted, if_neg h])

/-! ### What a change of host state brings, one effect after the other -/

/-- The press marks, when the host leaves RUN and WARN (R141). -/
def unmarkFor (old new : HostState) (s : State) : State :=
  if old.keysReported && !new.keysReported then clearReported s else s

/-- A pending request is cancelled, when the host leaves the running states (R108). -/
def cancelFor (old new : HostState) (s : State) : State :=
  if old.running && !new.running then { s with hpc.pendingRestart := none } else s

/-- The host restart event. -/
def restartFor (new : HostState) (s : State) : State := if new.restartEvent then hostRestartEvent s else s

/-- The receiver (R160). -/
def receiveFor (old new : HostState) (s : State) : State :=
  if old.delivers != new.delivers then { s with panel.partialFrame := [] } else s

/-- The host word (R173). -/
def wordFor (new : HostState) (s : State) : State := if new.keepWarm then { s with outs.hostWord := 0 } else s

theorem moveHost_effects (new : HostState) (s : State) :
    moveHost new s = wordFor new (receiveFor s.hpc.host new (restartFor new
      (cancelFor s.hpc.host new (unmarkFor s.hpc.host new (adoptHost new s))))) := rfl

theorem unmarkFor_eq (old new : HostState) (s : State) :
    unmarkFor old new s = { s with keymap :=
      if old.keysReported && !new.keysReported then
        { s.keymap with positions := vmap (fun p => { p with reported := false }) s.keymap.positions }
      else s.keymap } := by
  cases h : old.keysReported && !new.keysReported <;> simp only [unmarkFor, h, Bool.false_eq_true, if_false, if_true]
  rfl

theorem cancelFor_eq (old new : HostState) (s : State) :
    cancelFor old new s = { s with hpc := { s.hpc with
      pendingRestart := if old.running && !new.running then none else s.hpc.pendingRestart } } := by
  cases h : old.running && !new.running <;> simp only [cancelFor, h, Bool.false_eq_true, if_false, if_true]

theorem receiveFor_eq (old new : HostState) (s : State) :
    receiveFor old new s = { s with panel := { s.panel with
      partialFrame := if old.delivers != new.delivers then [] else s.panel.partialFrame } } := by
  cases h : old.delivers != new.delivers <;> simp only [receiveFor, h, Bool.false_eq_true, if_false, if_true]

theorem wordFor_eq (new : HostState) (s : State) :
    wordFor new s = { s with outs := if new.keepWarm then { s.outs with hostWord := 0 } else s.outs } := by
  cases h : new.keepWarm <;> simp only [wordFor, h, Bool.false_eq_true, if_false, if_true]

/-- The pending request after a change of host state (R108). -/
def requestAfter (new : HostState) (s : State) : Option RestartKind :=
  if s.hpc.host.running && !new.running then none else s.hpc.pendingRestart

/-- The keymap unit after a change of host state (R141). -/
def keymapAfter (new : HostState) (s : State) : Keymap := if new.keysReported then s.keymap else unreported s

theorem keymapAfter_eq (new : HostState) (s : State) :
    (if s.hpc.host.keysReported && !new.keysReported then
        { s.keymap with positions := vmap (fun p => { p with reported := false }) s.keymap.positions }
      else s.keymap) = keymapAfter new s := by
  cases h : s.hpc.host.keysReported <;> cases h' : new.keysReported <;> simp [keymapAfter, unreported, h, h']

/-- The bytes of a frame partly received after a change of host state (R160). -/
def partialAfter (new : HostState) (s : State) : List Byte :=
  if s.hpc.host.delivers != new.delivers then [] else s.panel.partialFrame

/-- A change to a host state that is no restart event. -/
theorem moveHost_plain {new : HostState} (h : new.restartEvent = false) (s : State) :
    moveHost new s =
      { s with
        hpc := { s.hpc with host := new, pendingRestart := requestAfter new s }
        heat := budgeted new s
        keymap := keymapAfter new s
        panel := { s.panel with partialFrame := partialAfter new s } } := by
  have warm := HostState.not_keepWarm_of_not_restartEvent h
  simp only [moveHost_effects, restartFor, wordFor, h, warm, Bool.false_eq_true, if_false]
  rw [receiveFor_eq, cancelFor_eq, unmarkFor_eq, adoptHost_eq, keymapAfter_eq]
  rfl

/-- A change to a host state that is a restart event (Table 0-4). -/
theorem moveHost_restartEvent {new : HostState} (h : new.restartEvent = true) (s : State) :
    moveHost new s =
      { silenced s with
        hpc := { s.hpc with host := new, beat := none, lastSeq := none, pendingRestart := requestAfter new s }
        heat := budgeted new s
        keymap := unreported s
        outs := if new.keepWarm then { s.outs with hostWord := 0 } else s.outs } := by
  have deaf := HostState.not_delivers_of_restartEvent h
  have keys := HostState.not_keysReported_of_restartEvent h
  have keymap : keymapAfter new s = unreported s := by simp only [keymapAfter, keys, Bool.false_eq_true, if_false]
  have received : (if s.hpc.host.delivers != new.delivers then [] else s.panel.partialFrame)
      = if s.hpc.host.delivers then [] else s.panel.partialFrame := by
    rw [deaf]
    cases s.hpc.host.delivers <;> rfl
  simp only [moveHost_effects, restartFor, h, if_true]
  rw [wordFor_eq, receiveFor_eq, cancelFor_eq, unmarkFor_eq, adoptHost_eq, keymapAfter_eq, keymap]
  simp only [hostRestartEvent, flushQueues, abandonRelay, received, silenced, requestAfter]

end Sys2Proof.Machine
end

section
/-! SUPPORT. What a command can do: the moves a state makes, one per change that some law of Safety looks at. Every operation of
the model is a chain of moves, so a law holds after every command as soon as each move keeps it. -/

namespace Sys2Proof.Machine

open Sys2Proof

/-! ### The part of the state that the laws look at -/

/-- The state with every field blank that no law looks at: the timebase, the host timers but for the off settle, the sample
state, the scan state, the user flags, the output words. -/
def core (s : State) : State :=
  { State.reset with
    power := s.power
    hpc := { Hpc.initial s.hpc.sequence s.hpc.ladder #v[false, false, false] with
      host := s.hpc.host, railOff := s.hpc.railOff, enables := s.hpc.enables, hostReset := s.hpc.hostReset
      offSettleTimer := s.hpc.offSettleTimer, softCount := s.hpc.softCount, hardList := s.hpc.hardList
      log := s.hpc.log, logSeq := s.hpc.logSeq, pendingRestart := s.hpc.pendingRestart }
    heat := { s.heat with limited := false, periodStart := none }
    probe := Probe.initial s.probe.table s.probe.poll
    acts := { s.acts with lock := 0, protect := false }
    pad := Pad.initial s.pad.record
    keymap := { s.keymap with nextTick := none }
    relay := { s.relay with lastServed := .poll, seq := 0, partialReply := [] }
    panel := { s.panel with partialFrame := [], speed := .low }
    store := s.store
    imageState := s.imageState
    outs := { s.outs with hostWord := 0, planeMask := 0, foreground := 0, indicator := false }
    errs := s.errs
    counters := s.counters }

/-! ### Moves -/

/-- The host states that a change of host state alone may lead to, rail enables and reset line as they are (sections 1.3, 6.3,
6.5, 6.6). -/
def Leads (s : State) : HostState → Prop
  | .preheat => (s.hpc.host = .standby ∧ s.power = .running) ∨ s.hpc.host = .powerCycle ∨ s.hpc.host = .lockout
      ∨ s.hpc.host = .soak
  | .soak => s.hpc.host = .preheat
  | .rails => s.hpc.host = .preheat ∨ s.hpc.host = .soak
  | .run => s.hpc.host = .boot ∨ s.hpc.host = .warn
  | .warn => s.hpc.host = .run
  | .standby | .boot | .restart | .powerCycle | .lockout | .drain => False

/-- A HOST_RESTART is pending and its reply, or another, is still in the queue (R108). -/
def RestartAwaits (s : State) : Prop := s.hpc.pendingRestart.isSome = true ∧ s.panel.replies ≠ []

/-- A slot's level action is released, its runtime state cleared, and its entry replaced (R77, R88). -/
def refillSlot (i : Slot) (e : Option ActionEntry) (s : State) : State :=
  let s1 := setRule i RuleState.clear (releaseSlot i s)
  { s1 with acts.entries := vset s1.acts.entries i e }

/-- One change that a law looks at, or any change that none looks at (`quiet`). Each carries what its place in the model
guarantees of the state before it. -/
inductive Move : State → State → Prop
  | quiet {s t : State} (same : core t = core s) (later : s.now ≤ t.now) (queue : t.pending = s.pending)
      (order : t.choice = s.choice) : Move s t
  -- error record and counters
  | count (e : CounterEvent) (s : State) : Move s (countEvent e s)
  | latch (c : ErrorClass) (f : ErrorFields) (s : State) : Move s (latchError c f s)
  | forget (mask : Word) (s : State) : Move s { s with errs := s.errs.clear mask }
  | ignore (mask : Word) (s : State) : Move s { s with errs.ignore := mask }
  | select (k : Fin 2) (e : CounterEvent) (s : State) :
      Move s { s with counters := vset s.counters k { select := e, count := 0 } }
  | resetRecords (s : State) : Move s (resetRecords s)
  -- Frame Engine
  | transmit (s : State) : Move s (startTransmit s)
  | notice {s : State} (delivers : s.hpc.host.delivers = true) (room : s.panel.notices.length < Config.noticeEntries)
      (n : Notice) : Move s { s with panel.notices := s.panel.notices ++ [n] }
  | noticeSent (s : State) : Move s { s with panel.notices := s.panel.notices.tail, panel.tx := .idle }
  | replySent (s : State) : Move s { s with panel.replies := s.panel.replies.tail, panel.tx := .idle }
  | flush (s : State) : Move s (flushQueues s)
  -- Relay Unit
  | answered {s : State} {e : RelayEntry} {rest : List RelayEntry} (held : s.relay.queue = e :: rest)
      (unlinked : s.relay.link = none) (r : Reply) :
      Move s { s with relay.queue := rest, panel.replies := s.panel.replies ++ [r] }
  | abandoned (s : State) : Move s (abandonRelay s)
  | drained (reply : RelayEntry → Reply) (s : State) :
      Move s (abandonRelay { s with panel.replies := s.panel.replies ++ s.relay.queue.map reply })
  | link {s : State} (l : Option Link) (carries : ∀ k, l = some k → k.use = .relay →
      s.relay.queue ≠ [] ∨ ∃ k, s.relay.link = some k ∧ k.use = .relay) :
      Move s { s with relay.link := l }
  -- Image Store
  | stored {s : State} {image : Image} {bound : Nat} (storing : s.imageState = .storing image none bound) :
      Move s { s with store := .image image, imageState := .valid }
  | storedReply {s : State} {image : Image} {tag : Tag} {bound : Nat}
      (storing : s.imageState = .storing image (some tag) bound) (r : Reply) :
      Move s { s with store := .image image, imageState := .valid, panel.replies := s.panel.replies ++ [r] }
  -- tables
  | sequence {r : SequenceRecord} (ranges : r.inRange = true) (s : State) : Move s { s with hpc.sequence := r }
  | ladder {r : LadderRecord} (ranges : r.inRange = true) (s : State) : Move s (applyLoadLadder r s).1
  | zone {l : ZoneLoad} (ranges : l.record.inRange = true) (s : State) :
      Move s { s with
        heat.records := vset s.heat.records l.zone l.record
        heat.zones := vset s.heat.zones l.zone (reloadedZone s.heat.records[l.zone] l.record s.heat.zones[l.zone]) }
  | budget {b : BudgetRecord} (ranges : b.inRange = true) (s : State) : Move s (applyLoadBudget b s).1
  | channel {e : ChannelEntry} (ranges : e.inRange = true) (c : Channel) (s : State) :
      Move s { s with probe.table := vset s.probe.table c e }
  | poll {r : PollRecord} (ranges : r.inRange = true) (s : State) : Move s { s with probe.poll := r }
  | window {e : WindowEntry} (ranges : e.inRange = true) (w : Fin 8) (s : State) :
      Move s { s with relay.windows := vset s.relay.windows w e }
  | keypad {r : KeypadRecord} (ranges : r.inRange = true) (s : State) : Move s { s with pad.record := r }
  | keymapEntry {e : KeyEntry} (ranges : e.inRange = true) (k : KeySlot) (s : State) :
      Move s { s with keymap.entries := vset s.keymap.entries k e }
  | keymapTimeout {n : Nat} (ranges : layerTimeoutInRange n = true) (s : State) :
      Move s { s with keymap.layerTimeout := n }
  -- Heater Allocator
  | period (s : State) : Move s { s with heat := (periodComputation s).heat }
  | drive (z : Zone) (s : State) : Move s (driveOutput z s)
  -- Action Table Unit
  | trip {s : State} {i : Slot} {r : SampleRule} (entry : s.acts.entries[i] = some (.sample r))
      (untripped : s.acts.rules[i].tripped = false) (n : Nat) :
      Move s (applyLevel r.level (setRule i { tripped := true, trips := n } s))
  | untrip {s : State} {i : Slot} {r : SampleRule} (entry : s.acts.entries[i] = some (.sample r))
      (tripped : s.acts.rules[i].tripped = true) (n : Nat) :
      Move s (releaseLevel r.level (setRule i { tripped := false, trips := n } s))
  | refill {i : Slot} {e : Option ActionEntry} (fits : ∀ a, e = some a → a.inRange = true ∧ a.key % 8 = i.val / 4)
      (s : State) : Move s (refillSlot i e s)
  | resetRule (i : Slot) (s : State) : Move s (setRule i RuleState.clear (releaseSlot i s))
  -- Keymap Unit
  | stack {s : State} {l : List StackEntry}
      (fits : l.length ≤ Config.stackEntries ∨ l.length ≤ s.keymap.stack.length) : Move s (setStack l s)
  | keys {s : State} {v : Vector KeyPosition 64}
      (marks : ∀ p : Position, v[p].reported = true →
        s.keymap.positions[p].reported = true ∨ s.hpc.host.keysReported = true) :
      Move s { s with keymap.positions := v }
  -- host state, rails, reset line
  | host {s : State} {new : HostState} (leads : Leads s new) : Move s (moveHost new s)
  | settled {s : State} (loading : s.power = .loading) : Move s (moveHost .preheat { s with power := .running })
  | supplied (s : State) : Move s { s with power := .running }
  | railOn {s : State} (host : s.hpc.host = .rails) (k : Rail) : Move s { s with hpc.enables := vset s.hpc.enables k true }
  | boot {s : State} (host : s.hpc.host = .rails ∨ s.hpc.host = .restart) :
      Move s (moveHost .boot { s with hpc.hostReset := false })
  | restart {s : State} (live : s.hpc.host.running = true ∨ RestartAwaits s) {p : Option RestartKind}
      (request : p = none ∨ p = s.hpc.pendingRestart) :
      Move s (moveHost .restart { s with hpc.hostReset := true, hpc.pendingRestart := p })
  | off {s : State} {new : HostState} (target : new = .powerCycle ∨ new = .lockout)
      (live : railWatched s = true ∨ RestartAwaits s) {p : Option RestartKind}
      (request : p = none ∨ p = s.hpc.pendingRestart) :
      Move s (moveHost new { s with
        hpc.enables := #v[false, false, false], hpc.hostReset := true, hpc.pendingRestart := p })
  | drain {s : State} (live : s.hpc.host.running = true) : Move s (moveHost .drain { s with hpc.railOff := false })
  | railsGoOff {s : State} (host : s.hpc.host = .drain) : Move s (beginRailOff s)
  | railReleased {s : State} (host : s.hpc.host = .drain) (settling : s.hpc.offSettleTimer.isSome = true) (k : Rail)
      (t : Timer) : Move s { s with hpc.enables := vset s.hpc.enables k false, hpc.offSettleTimer := some t }
  | standby {s : State} (host : s.hpc.host = .drain) (settling : s.hpc.offSettleTimer.isSome = true) :
      Move s (moveHost .standby { s with
        hpc.enables := #v[false, false, false], hpc.offSettleTimer := none, hpc.railOff := false })
  | settleStopped (s : State) : Move s { s with hpc.offSettleTimer := none }
  -- restart ladder
  | requested {s : State} (live : s.hpc.host.running = true) (k : RestartKind) :
      Move s { s with hpc.pendingRestart := some k }
  | attempted {s : State} (below : s.hpc.softCount < s.hpc.ladder.maxSoft) :
      Move s { s with hpc.softCount := s.hpc.softCount + 1 }
  | steady (s : State) : Move s { s with hpc.softCount := 0 }
  | unlisted (s : State) : Move s { s with hpc.hardList := [] }
  | listed (s : State) : Move s { s with hpc.hardList := hardListAfter s, hpc.softCount := 0 }
  | logged (cause : RestartCause) (action : RestartAction) (s : State) : Move s (writeLog cause action s)

/-- A chain of moves. -/
abbrev Moves : State → State → Prop := Relation.ReflTransGen Move

/-- A frame that is taken claims an entry of the reply queue: filled by its reply, kept by a store in progress, or kept by the
command that joins the relay (R148, R162, R163, R169). -/
inductive Claim : State → State → Prop
  | reply {s : State} (accepts : Accepts s) (r : Reply) : Claim s { s with panel.replies := s.panel.replies ++ [r] }
  | store {s : State} (accepts : Accepts s) (idle : s.imageState.isStoring = false) (tag : Tag) (speed : Speed) :
      Claim s (beginStore tag speed s)
  | join {s : State} (accepts : Accepts s) {e : RelayEntry} (distinct : ∀ x ∈ s.relay.queue, x.tag ≠ e.tag)
      (room : s.relay.queue.length < Config.relayEntries) : Claim s { s with relay.queue := s.relay.queue ++ [e] }

/-- What a command does: a chain of moves, with at most one claim in it. -/
inductive Run (s t : State) : Prop
  | moves (h : Moves s t)
  | claims {u v : State} (before : Moves s u) (claim : Claim u v) (after : Moves v t)

/-! ### Chains -/

theorem Moves.one {s t : State} (h : Move s t) : Moves s t := .single h

/-- A change that no law looks at. -/
theorem Moves.quiet {s t : State} (same : core t = core s) (now : t.now = s.now) (queue : t.pending = s.pending)
    (order : t.choice = s.choice) : Moves s t :=
  .one (.quiet same (le_of_eq now.symm) queue order)

theorem Moves.to_eq {s t u : State} (h : Moves s t) (e : u = t) : Moves s u := e ▸ h

theorem Run.trans {s u t : State} (h : Run s u) (k : Moves u t) : Run s t := by
  cases h with
  | moves m => exact .moves (m.trans k)
  | claims before claim after => exact .claims before claim (after.trans k)

theorem Run.of_moves {s u t : State} (k : Moves s u) (h : Run u t) : Run s t := by
  cases h with
  | moves m => exact .moves (k.trans m)
  | claims before claim after => exact .claims (k.trans before) claim after

theorem foldl_moves {α : Type} {f : State → α → State} (hf : ∀ s x, Moves s (f s x)) (l : List α) (s : State) :
    Moves s (l.foldl f s) :=
  List.foldlRecOn l f (motive := fun t => Moves s t) .refl fun t ht x _ => ht.trans (hf t x)

end Sys2Proof.Machine
end

section
/-! SUPPORT. No move takes an entry of the reply queue (R162), so a frame that was taken still has its entry when it is answered. -/

namespace Sys2Proof.Machine

open Sys2Proof

/-- The entries that a store in progress claims. -/
def ImageState.claims : ImageState → Nat
  | .storing _ (some _) _ => 1
  | .storing _ none _ | .valid | .factory => 0

theorem occupied_eq (s : State) :
    occupied s = s.panel.replies.length + (s.relay.queue.length + s.imageState.claims) := by
  unfold occupied claimedUnfilled storeClaim
  congr 2
  split
  · next claim _ h => rw [h]; cases claim <;> rfl
  · next h => rw [h]; rfl
  · next h => rw [h]; rfl

@[simp] theorem ImageState.claims_unclaim (i : ImageState) : i.unclaim.claims = 0 := by cases i <;> rfl

theorem occupied_moveHost_le (new : HostState) (s : State) : occupied (moveHost new s) ≤ occupied s := by
  cases h : new.restartEvent with
  | false => rw [moveHost_plain h]; exact le_refl _
  | true =>
    simp only [moveHost_restartEvent h, occupied_eq, silenced, ImageState.claims_unclaim, List.length_nil]
    omega

@[simp] theorem changeLevel_occupied (f : Nat → Nat) (a : LevelAction) (s : State) :
    occupied (changeLevel f a s) = occupied s := by
  cases a <;> rfl

@[simp] theorem releaseSlot_occupied (i : Slot) (s : State) : occupied (releaseSlot i s) = occupied s := by
  unfold releaseSlot releaseLevel
  split
  · split <;> simp
  · rfl

theorem applyLoadBudget_occupied (b : BudgetRecord) (s : State) : occupied (applyLoadBudget b s).1 = occupied s := by
  simp only [applyLoadBudget]
  split <;> rfl

theorem startTransmit_occupied (s : State) : occupied (startTransmit s) = occupied s := by
  rw [startTransmit_eq]
  rfl

theorem Move.occupied_le {s t : State} (h : Move s t) : occupied t ≤ occupied s := by
  cases h with
  | quiet same =>
    have seen (u : State) : occupied u = occupied (core u) := rfl
    rw [seen, same, ← seen]
  | count | latch | forget | ignore | select | resetRecords | notice | noticeSent | link | sequence | ladder | zone | channel
  | poll | window | keypad | keymapEntry | keymapTimeout | period | drive | stack | keys | supplied | railOn | railsGoOff
  | railReleased | settleStopped | requested | attempted | steady | unlisted | listed | logged => exact le_refl _
  | transmit => exact (startTransmit_occupied s).le
  | replySent => simp only [occupied, List.length_tail]; exact Nat.add_le_add_right (Nat.sub_le _ _) _
  | flush => simp only [occupied_eq, flushQueues, ImageState.claims_unclaim, List.length_nil]; omega
  | answered held unlinked r => simp only [occupied_eq, held, List.length_append, List.length_cons, List.length_nil]; omega
  | abandoned => simp only [occupied_eq, abandonRelay, List.length_nil]; omega
  | drained reply =>
    simp only [occupied_eq, abandonRelay, List.length_append, List.length_map, List.length_nil]
    omega
  | stored storing => simp only [occupied_eq, storing, ImageState.claims]; omega
  | storedReply storing r =>
    simp only [occupied_eq, storing, ImageState.claims, List.length_append, List.length_cons, List.length_nil]
    omega
  | budget => exact (applyLoadBudget_occupied ..).le
  | trip => exact (changeLevel_occupied ..).le
  | untrip => exact (changeLevel_occupied ..).le
  | refill => exact (releaseSlot_occupied ..).le
  | resetRule => exact (releaseSlot_occupied ..).le
  | host | settled | boot | restart | off | drain | standby => exact occupied_moveHost_le _ _

theorem Moves.occupied_le {s t : State} (h : Moves s t) : occupied t ≤ occupied s := by
  induction h with
  | refl => exact le_refl _
  | tail _ m ih => exact m.occupied_le.trans ih

end Sys2Proof.Machine
end

section
/-! SUPPORT. The shared operations and the Host Power Controller as chains of moves. -/

namespace Sys2Proof.Machine

open Sys2Proof

/-! ### Shared operations -/

theorem reach_moves (t : Nat) (s : State) : Moves s (reach t s) := .one (.quiet rfl (Nat.le_max_left _ _) rfl rfl)

theorem countEvent_moves (e : CounterEvent) (s : State) : Moves s (countEvent e s) := .one (.count e s)

theorem startTransmit_moves (s : State) : Moves s (startTransmit s) := .one (.transmit s)

theorem dropOnce_moves (code : Nat) (s : State) : Moves s (dropOnce code s) :=
  (countEvent_moves _ s).trans (Moves.one (.latch _ _ _))

theorem dropNotice_moves (code : Nat) (s : State) : Moves s (dropNotice code s) := by
  unfold dropNotice
  split
  · exact (dropOnce_moves code s).trans (dropOnce_moves _ _)
  · exact dropOnce_moves code s

theorem handNotice_moves (n : Notice) (s : State) : Moves s (handNotice n s) := by
  unfold handNotice
  split
  · next delivers =>
    split
    · next room => exact (Moves.one (.notice delivers room n)).trans (startTransmit_moves _)
    · exact dropNotice_moves _ s
  · exact .refl

theorem recordError_moves (c : ErrorClass) (f : ErrorFields) (s : State) : Moves s (recordError c f s) := by
  unfold recordError
  split
  · exact (Moves.one (.latch c f s)).trans (handNotice_moves _ _)
  · exact .one (.latch c f s)

theorem beginRailOff_moves {s : State} (h : s.hpc.host = .drain) : Moves s (beginRailOff s) := .one (.railsGoOff h)

theorem reportRelayEmpty_moves (s : State) : Moves s (reportRelayEmpty s) := by
  unfold reportRelayEmpty
  split
  · next h =>
    simp only [relayReportsEmpty, Bool.and_eq_true, decide_eq_true_eq] at h
    exact beginRailOff_moves h.1.1
  · exact .refl

/-! ### The host state after a change -/

@[simp] theorem moveHost_host (new : HostState) (s : State) : (moveHost new s).hpc.host = new := by
  cases h : new.restartEvent with
  | false => rw [moveHost_plain h]
  | true => rw [moveHost_restartEvent h]

theorem railWatched_of_hpc {s t : State} (h : t.hpc = s.hpc) : railWatched t = railWatched s := by
  unfold railWatched
  rw [h]

theorem railWatched_of_running {s : State} (h : s.hpc.host.running = true) : railWatched s = true := by
  unfold railWatched
  cases e : s.hpc.host <;> rw [e] at h <;> first | rfl | exact absurd h Bool.false_ne_true

/-- A host restart event empties the queues, whatever was in them (R166). -/
theorem moveHost_absorbs {new : HostState} (h : new.restartEvent = true) (s : State) (replies : List Reply)
    (notices : List Notice) (tx : Transmitter) {i : ImageState} (hi : i.unclaim = s.imageState.unclaim) :
    moveHost new { s with panel.replies := replies, panel.notices := notices, panel.tx := tx, imageState := i }
      = moveHost new s := by
  rw [moveHost_restartEvent h, moveHost_restartEvent h]
  simp only [silenced, hi]
  rfl

/-! ### Rails and the cold-start gate -/

theorem beginRailStep_moves {s : State} (h : s.hpc.host = .rails) (k : Rail) : Moves s (beginRailStep k s) := by
  have begun : Moves s { s with
      hpc.enables := vset s.hpc.enables k true
      hpc.railStep := some { rail := k, phase := .waitPg, timer := startTimer s (ms s.hpc.sequence.pgTimeout[k]) } } :=
    (Moves.one (.railOn h k)).trans (Moves.quiet rfl rfl rfl rfl)
  simp only [beginRailStep]
  split
  · exact begun.trans (Moves.quiet rfl rfl rfl rfl)
  · exact begun

theorem enterBoot_moves {s : State} (h : s.hpc.host = .rails ∨ s.hpc.host = .restart) : Moves s (enterBoot s) := by
  have timed : Moves s { s with
      hpc.railStep := none, hpc.pulseTimer := none
      hpc.bootTimer := some (startTimer s (sec s.hpc.ladder.bootWindow)) } := .quiet rfl rfl rfl rfl
  exact timed.trans (Moves.one (.boot h))

theorem enterRails_moves (kind : StartKind) {s : State} (h : s.hpc.host = .preheat ∨ s.hpc.host = .soak) :
    Moves s (enterRails kind s) := by
  have recorded : Moves s { s with
      hpc.start := startRecord kind s, hpc.maskInUse := s.hpc.sequence.railMask
      hpc.soakTimer := none, hpc.preheatTimer := none } := .quiet rfl rfl rfl rfl
  have entered := recorded.trans (Moves.one (.host (new := .rails) h))
  simp only [enterRails]
  split
  · exact entered.trans (beginRailStep_moves (moveHost_host ..) _)
  · exact entered

theorem completeSoak_moves {s : State} (h : s.hpc.host = .soak) : Moves s (completeSoak s) := enterRails_moves _ (.inr h)

theorem enterSoak_moves {s : State} (h : s.hpc.host = .preheat) : Moves s (enterSoak s) := by
  have timed : Moves s { s with hpc.soakTimer := some (startTimer s (sec s.hpc.sequence.soakTime)) } :=
    .quiet rfl rfl rfl rfl
  have entered := timed.trans (Moves.one (.host (new := .soak) h))
  simp only [enterSoak]
  split
  · exact entered.trans (completeSoak_moves (moveHost_host ..))
  · exact entered

theorem evaluateGate_moves (s : State) : Moves s (evaluateGate s) := by
  unfold evaluateGate
  split
  case h_1 h =>
    split
    · exact enterSoak_moves h
    · exact .refl
  case h_2 h =>
    split
    · exact .refl
    · have stopped : Moves s { s with hpc.soakTimer := none } := .quiet rfl rfl rfl rfl
      exact stopped.trans (Moves.one (.host (new := .preheat) (.inr (.inr (.inr h)))))
  all_goals exact .refl

theorem gateReport_moves (c : Channel) (s : State) : Moves s (gateReport c s) := by
  unfold gateReport
  split
  · exact evaluateGate_moves s
  · exact .refl

/-- The state from which `enterPreheat` changes the host state. -/
def preheating (s : State) : State :=
  { s with
    hpc.preheatTimer := some (startTimer s (sec s.hpc.sequence.preheatTimeout))
    hpc.start.failedTests := 0
    hpc.suppress := false
    hpc.powerOffTimer := none
    hpc.retryTimer := none }

theorem preheating_moves (s : State) : Moves s (preheating s) := .quiet rfl rfl rfl rfl

theorem enterPreheat_eq (s : State) : enterPreheat s = evaluateGate (moveHost .preheat (preheating s)) := rfl

theorem enterPreheat_moves {s : State} (h : Leads s .preheat) : Moves s (enterPreheat s) :=
  ((preheating_moves s).trans (Moves.one (.host (new := .preheat) h))).trans (evaluateGate_moves _)

theorem forcedStartTest_moves {s : State} (h : s.hpc.host = .preheat ∨ s.hpc.host = .soak) :
    Moves s (forcedStartTest s) := by
  unfold forcedStartTest
  split
  · exact enterRails_moves _ h
  · exact .quiet rfl rfl rfl rfl

theorem wakeRequest_moves (s : State) : Moves s (wakeRequest s) := by
  unfold wakeRequest
  split
  · next h => exact enterPreheat_moves (.inl h)
  · exact .refl

theorem settleEnds_moves (k : Rail) {s : State} (h : s.hpc.host = .rails) : Moves s (settleEnds k s) := by
  unfold settleEnds
  split
  · exact beginRailStep_moves h _
  · exact enterBoot_moves (.inl h)

/-! ### Drain (R17 to R20) -/

theorem enterDrain_moves {s : State} (h : s.hpc.host.running = true) : Moves s (enterDrain s) := by
  have timed : Moves s { discardWatchdog s with
      hpc.drainTimer := some (startTimer s (ms s.hpc.sequence.drainTimeout)) } := .quiet rfl rfl rfl rfl
  exact (timed.trans (Moves.one (.drain h))).trans (reportRelayEmpty_moves _)

/-- With no highest rail every enable is clear. -/
theorem highestRail_none {v : Vector Bool 3} (h : highestRail v = none) : v = #v[false, false, false] := by
  have clear (k : Rail) : v[k] = false := by
    rw [highestRail, List.getLast?_eq_none_iff, List.filter_eq_nil_iff] at h
    exact Bool.not_eq_true _ ▸ h k (by fin_cases k <;> simp [allRails])
  ext k hk
  interval_cases k
  · exact clear 0
  · exact clear 1
  · exact clear 2

theorem offSettleStep_moves {s : State} (h : s.hpc.host = .drain) (settling : s.hpc.offSettleTimer.isSome = true) :
    Moves s (offSettleStep s) := by
  have last (u : State) (hu : u.hpc.host = .drain) (su : u.hpc.offSettleTimer.isSome = true)
      (clear : highestRail u.hpc.enables = none) :
      Moves u (moveHost .standby { u with hpc.offSettleTimer := none, hpc.railOff := false }) := by
    have left := Move.standby hu su
    rw [← highestRail_none clear] at left
    exact .one left
  simp only [offSettleStep]
  cases top : highestRail s.hpc.enables with
  | none =>
    simp only [top]
    exact last s h settling top
  | some k =>
    have released (t : Timer) : Moves s { s with
        hpc.enables := vset s.hpc.enables k false, hpc.up := vset s.hpc.up k false, hpc.offSettleTimer := some t } :=
      (Moves.one (.railReleased h settling k t)).trans (Moves.quiet rfl rfl rfl rfl)
    simp only
    split
    · exact released _
    · next clear =>
      obtain ⟨t, ht⟩ := Option.isSome_iff_exists.1 settling
      exact (released t).trans (last _ h rfl clear)

/-! ### Restarts (R100 to R110) -/

theorem discardWatchdog_moves (s : State) : Moves s (discardWatchdog s) := .quiet rfl rfl rfl rfl

/-- The state from which a soft restart changes the host state. -/
def pulsing (cause : RestartCause) (s : State) : State :=
  { discardWatchdog (writeLog cause .soft s) with hpc.pulseTimer := some (startTimer s (ms s.hpc.ladder.resetPulse)) }

theorem softRestart_moves (cause : RestartCause) {s : State} (live : s.hpc.host.running = true ∨ RestartAwaits s)
    {p : Option RestartKind} (request : p = none ∨ p = s.hpc.pendingRestart) :
    Moves s (softRestart cause { s with hpc.pendingRestart := p }) := by
  have logged : Moves s (writeLog cause .soft s) := .one (.logged ..)
  have timed : Moves (writeLog cause .soft s) (pulsing cause s) := .quiet rfl rfl rfl rfl
  exact (logged.trans timed).tail (Move.restart (s := pulsing cause s) live request)

/-- The state from which the rails drop (R104). -/
def dropping (powerOff retry : Option Timer) (s : State) : State :=
  { s with
    hpc.up := #v[false, false, false], hpc.railStep := none, hpc.powerOffTimer := powerOff, hpc.retryTimer := retry }

theorem dropping_moves (powerOff retry : Option Timer) (s : State) : Moves s (dropping powerOff retry s) :=
  .quiet rfl rfl rfl rfl

theorem enterPowerCycle_moves {s : State} (live : railWatched s = true ∨ RestartAwaits s)
    {p : Option RestartKind} (request : p = none ∨ p = s.hpc.pendingRestart) :
    Moves s (enterPowerCycle { s with hpc.pendingRestart := p }) := by
  have timed := dropping_moves (some (startTimer s (sec s.hpc.ladder.powerOffTime))) s.hpc.retryTimer s
  exact timed.tail (Move.off (s := dropping _ _ s) (.inl rfl) live request)

theorem softRestart_running (cause : RestartCause) {s : State} (h : s.hpc.host.running = true) :
    Moves s (softRestart cause s) :=
  softRestart_moves cause (p := s.hpc.pendingRestart) (.inl h) (.inr rfl)

theorem enterPowerCycle_watched {s : State} (h : railWatched s = true) : Moves s (enterPowerCycle s) :=
  enterPowerCycle_moves (p := s.hpc.pendingRestart) (.inl h) (.inr rfl)

theorem enterLockout_moves {s : State} (live : railWatched s = true) : Moves s (enterLockout s) := by
  have gone (retry : Option Timer) : Moves s (moveHost .lockout (railDrop { s with hpc.retryTimer := retry })) :=
    (dropping_moves s.hpc.powerOffTimer retry s).tail
      (Move.off (s := dropping _ _ s) (.inr rfl) (.inl live) (.inr rfl))
  exact gone _

/-- The state in which a hard-restart decision has been taken and logged, before the rails drop (R103). -/
def decided (cause : RestartCause) (action : RestartAction) (s : State) : State :=
  { discardWatchdog (writeLog cause action { s with hpc.hardList := hardListAfter s, hpc.softCount := 0 }) with
    hpc.pulseTimer := none, hpc.drainTimer := none }

theorem decided_moves (cause : RestartCause) (action : RestartAction) (s : State) : Moves s (decided cause action s) :=
  ((Moves.one (.listed s)).trans (Moves.one (.logged cause action _))).trans (Moves.quiet rfl rfl rfl rfl)

theorem hardDecision_moves (cause : RestartCause) {s : State} (live : railWatched s = true) :
    Moves s (hardDecision cause s) := by
  have watched (action : RestartAction) : railWatched (decided cause action s) = true := live
  simp only [hardDecision]
  split
  · exact (decided_moves cause .lockout s).trans (enterLockout_moves (watched _))
  · exact (decided_moves cause .hard s).trans (enterPowerCycle_watched (watched _))

theorem escalate_moves (cause : RestartCause) {s : State} (h : s.hpc.host.running = true) : Moves s (escalate cause s) := by
  simp only [escalate]
  split
  · next below => exact (Moves.one (.attempted below)).trans (softRestart_running cause h)
  · exact hardDecision_moves cause (railWatched_of_running h)

theorem railFault_moves (k : Rail) {s : State} (h : railWatched s = true) : Moves s (railFault k s) := by
  have recorded := recordError_moves .railFault { index := some (k.val + 1) } s
  have watched := (railWatched_of_hpc (recordError_hpc .railFault { index := some (k.val + 1) } s)).trans h
  have stopped (u : State) : Moves u { u with hpc.railStep := none, hpc.drainTimer := none, hpc.offSettleTimer := none } :=
    (Moves.one (.settleStopped u)).trans (Moves.quiet rfl rfl rfl rfl)
  exact (recorded.trans (stopped _)).trans (hardDecision_moves _ watched)

theorem exitLockout_moves {s : State} (h : s.hpc.host = .lockout) : Moves s (exitLockout s) := by
  have cleared : Moves s { s with hpc.hardList := [], hpc.softCount := 0, hpc.retryTimer := none } :=
    ((Moves.one (.unlisted s)).trans (Moves.one (.steady _))).trans (Moves.quiet rfl rfl rfl rfl)
  exact cleared.trans (enterPreheat_moves (.inr (.inr (.inl h))))

theorem ackLockout_moves (s : State) : Moves s (ackLockout s) := by
  unfold ackLockout
  split
  · next h => exact exitLockout_moves h
  · exact .refl

theorem requestRestart_moves (s : State) : Moves s (requestRestart s) := by
  unfold requestRestart
  split
  · next h => exact softRestart_running _ h
  · exact .refl

theorem requestShutdown_moves (s : State) : Moves s (requestShutdown s) := by
  unfold requestShutdown
  split
  · next h => exact enterDrain_moves h
  · exact .refl

theorem makePendingRestart_moves {s : State} (h : RestartAwaits s) (kind : RestartKind) :
    Moves s (makePendingRestart kind s) := by
  cases kind with
  | soft => exact softRestart_moves _ (p := none) (.inr h) (.inl rfl)
  | hard =>
    have logged : Moves s (discardWatchdog (writeLog .hostRequest .hard s)) :=
      (Moves.one (.logged ..)).trans (discardWatchdog_moves _)
    have awaits : RestartAwaits (discardWatchdog (writeLog .hostRequest .hard s)) := h
    exact logged.trans (enterPowerCycle_moves (p := none) (.inr awaits) (.inl rfl))

/-- The Host Power Controller with the watchdog timers discarded (R16). -/
def unwatched (h : Hpc) : Hpc :=
  { h with bootTimer := none, heartbeatTimer := none, graceTimer := none, stableTimer := none }

theorem discardWatchdog_eq (s : State) : discardWatchdog s = { s with hpc := unwatched s.hpc } := rfl

theorem writeLog_eq (cause : RestartCause) (action : RestartAction) (s : State) :
    writeLog cause action s = { s with hpc := logged cause action s.hpc.hardList.length s.hpc.softCount s } := by
  simp only [writeLog, logged, List.length_append, List.length_singleton, Config.logEntries]

/-- The Host Power Controller when a soft restart changes the host state (R101). -/
def softResetHpc (cause : RestartCause) (s : State) : Hpc :=
  { unwatched (logged cause .soft s.hpc.hardList.length s.hpc.softCount s) with
    hostReset := true, pulseTimer := some { start := s.now, span := ms s.hpc.ladder.resetPulse } }

theorem softRestart_eq (cause : RestartCause) (s : State) :
    softRestart cause s = moveHost .restart { s with hpc := softResetHpc cause s } := by
  simp only [softRestart, writeLog_eq, discardWatchdog_eq, softResetHpc]
  rfl

/-- The Host Power Controller when the rails drop into POWER_CYCLE (R104). -/
def powerCycleHpc (h : Hpc) (now : Nat) : Hpc :=
  { h with
    enables := #v[false, false, false], up := #v[false, false, false], hostReset := true, railStep := none
    powerOffTimer := some { start := now, span := sec h.ladder.powerOffTime } }

theorem enterPowerCycle_eq (s : State) :
    enterPowerCycle s = moveHost .powerCycle { s with hpc := powerCycleHpc s.hpc s.now } := rfl

/-- A restart made after its reply has left empties the queues (R108, R166): what was in them does not matter. -/
theorem makePendingRestart_absorbs (kind : RestartKind) (s : State) (replies : List Reply) (notices : List Notice)
    (tx : Transmitter) {i : ImageState} (hi : i.unclaim = s.imageState.unclaim) :
    makePendingRestart kind
        { s with panel.replies := replies, panel.notices := notices, panel.tx := tx, imageState := i }
      = makePendingRestart kind s := by
  cases kind with
  | soft =>
    simp only [makePendingRestart, softRestart_eq]
    exact moveHost_absorbs (new := .restart) rfl
      { s with hpc := softResetHpc .hostRequest { s with hpc.pendingRestart := none } } replies notices tx hi
  | hard =>
    simp only [makePendingRestart, writeLog_eq, discardWatchdog_eq, enterPowerCycle_eq]
    exact moveHost_absorbs (new := .powerCycle) rfl
      { s with hpc := powerCycleHpc (unwatched (logged .hostRequest .hard s.hpc.hardList.length s.hpc.softCount
          { s with hpc.pendingRestart := none })) s.now } replies notices tx hi

theorem replySent_moves (s : State) : Moves s (replySent s) := by
  unfold replySent
  split
  · next r rest h =>
    have sent : Moves s { s with panel.replies := rest, panel.tx := .idle } := by
      have m := Move.replySent s
      rw [h] at m
      exact .one m
    simp only
    split
    · unfold hostRestartReplyLeft
      split
      · next kind hk =>
        have awaits : RestartAwaits s := ⟨Option.isSome_iff_exists.2 ⟨kind, hk⟩, by rw [h]; exact List.cons_ne_nil _ _⟩
        have absorbed := makePendingRestart_absorbs kind s rest s.panel.notices .idle (i := s.imageState) rfl
        exact (makePendingRestart_moves awaits kind).to_eq absorbed
      · exact sent
    · exact sent
  · next h =>
    have same : { s with panel.tx := .idle } = { s with panel.replies := s.panel.replies.tail, panel.tx := .idle } := by
      simp only [h, List.tail_nil]
    exact (Moves.one (.replySent s)).to_eq same

theorem resetQueues_moves (s : State) : Moves s (resetQueues s) := by
  have flushed : Moves s (flushQueues s) := .one (.flush s)
  simp only [resetQueues]
  split
  · next h =>
    unfold hostRestartReplyLeft
    split
    · next kind hk =>
      have awaits : RestartAwaits s := ⟨Option.isSome_iff_exists.2 ⟨kind, hk⟩, by
        intro e
        rw [e] at h
        exact Bool.false_ne_true h⟩
      have unclaimed : s.imageState.unclaim.unclaim = s.imageState.unclaim := by cases s.imageState <;> rfl
      have absorbed := makePendingRestart_absorbs kind s [] [] .idle unclaimed
      exact (makePendingRestart_moves awaits kind).to_eq absorbed
    · exact flushed
  · exact flushed

/-! ### Heartbeats (R95 to R98) -/

theorem enterWarn_moves {s : State} (h : s.hpc.host = .run) : Moves s (enterWarn s) := by
  have timed : Moves s { s with
      hpc.heartbeatTimer := none, hpc.graceTimer := some (startTimer s (ms s.hpc.ladder.grace)) } := .quiet rfl rfl rfl rfl
  have warned (n : Notice) : Moves s (handNotice n (moveHost .warn { s with
      hpc.heartbeatTimer := none, hpc.graceTimer := some (startTimer s (ms s.hpc.ladder.grace)) })) :=
    (timed.trans (Moves.one (.host (new := .warn) h))).trans (handNotice_moves _ _)
  simp only [enterWarn]
  split
  · refine (warned _).trans (escalate_moves _ ?_)
    rw [handNotice_hpc, moveHost_host]
    rfl
  · exact warned _

/-- The heartbeat record and the sequence written, the event counted (R95). -/
def beaten (seq : Byte) (s : State) : State :=
  countEvent .heartbeats
    { s with hpc.beat := some { moment := s.now, period := s.hpc.ladder.period }, hpc.lastSeq := some seq }

theorem beaten_moves (seq : Byte) (s : State) : Moves s (beaten seq s) := by
  have recorded : Moves s { s with
      hpc.beat := some { moment := s.now, period := s.hpc.ladder.period }, hpc.lastSeq := some seq } :=
    .quiet rfl rfl rfl rfl
  exact recorded.trans (countEvent_moves .heartbeats _)

theorem acceptHeartbeat_moves (seq : Byte) (s : State) : Moves s (acceptHeartbeat seq s) := by
  have timed (boot grace stable : Option Timer) : Moves s { beaten seq s with
        hpc.heartbeatTimer := some (startTimer s (ms s.hpc.ladder.period)), hpc.bootTimer := boot
        hpc.graceTimer := grace, hpc.stableTimer := stable } := (beaten_moves seq s).trans (Moves.quiet rfl rfl rfl rfl)
  unfold acceptHeartbeat
  split
  case h_1 h => exact (timed none s.hpc.graceTimer _).trans (Moves.one (.host (new := .run) (.inl h)))
  case h_2 => exact timed s.hpc.bootTimer s.hpc.graceTimer s.hpc.stableTimer
  case h_3 h => exact (timed s.hpc.bootTimer none s.hpc.stableTimer).trans (Moves.one (.host (new := .run) (.inr h)))
  all_goals exact beaten_moves seq s

theorem applyHeartbeat_moves (seq : Byte) (s : State) : Moves s (applyHeartbeat seq s).1 := by
  unfold applyHeartbeat
  split
  · exact .refl
  · split
    · exact countEvent_moves _ s
    · split
      · exact .refl
      · exact acceptHeartbeat_moves seq s

theorem applyHostRestart_moves (kind : Byte) (s : State) : Moves s (applyHostRestart kind s).1 := by
  unfold applyHostRestart
  cases running : s.hpc.host.running with
  | false => exact .refl
  | true =>
    simp only [Bool.not_true, Bool.false_eq_true, if_false]
    split
    · exact .refl
    · split
      · exact .one (.requested running _)
      · split
        · exact .one (.requested running _)
        · exact .refl

theorem applyShutdown_moves (keepWarm : Byte) (s : State) : Moves s (applyShutdown keepWarm s).1 := by
  unfold applyShutdown
  cases running : s.hpc.host.running with
  | false => exact .refl
  | true =>
    simp only [Bool.not_true, Bool.false_eq_true, if_false]
    split
    · exact .refl
    · split
      · have suppressed : Moves s { s with hpc.suppress := true } := .quiet rfl rfl rfl rfl
        exact suppressed.trans (enterDrain_moves running)
      · exact enterDrain_moves running

end Sys2Proof.Machine
end

section
/-! SUPPORT. The Action Table Unit, the Probe Scheduler and the Relay Unit as chains of moves. -/

namespace Sys2Proof.Machine

open Sys2Proof

/-! ### Action Table Unit -/

theorem setUserFlag_moves (f : Fin 4) (s : State) : Moves s (setUserFlag f s) := .quiet rfl rfl rfl rfl

theorem clearUserFlag_moves (f : Fin 4) (s : State) : Moves s (clearUserFlag f s) := .quiet rfl rfl rfl rfl

theorem runEdge_moves (i : Slot) (r : SampleRule) (cause : TripCause) (value : Option Int) (s : State) :
    Moves s (runEdge i r cause value s) := by
  unfold runEdge
  cases r.edge with
  | none => exact .refl
  | setFlag f => exact setUserFlag_moves f s
  | clearFlag f => exact clearUserFlag_moves f s
  | notify => exact handNotice_moves _ s

section
variable {s : State} {i : Slot} {r : SampleRule} (entry : s.acts.entries[i] = some (.sample r))
include entry

theorem tripRule_moves (untripped : s.acts.rules[i].tripped = false) (cause : TripCause) (value : Option Int) :
    Moves s (tripRule i r cause value s) :=
  (Moves.one (.trip entry untripped _)).trans (runEdge_moves ..)

theorem clearRule_moves (tripped : s.acts.rules[i].tripped = true) : Moves s (clearRule i r s) :=
  .one (.untrip entry tripped _)

theorem inactiveRule_moves : Moves s (inactiveRule i r s) := by
  unfold inactiveRule
  split
  · next tripped => exact clearRule_moves entry tripped
  · exact .refl

theorem activeRule_moves (v : Int) : Moves s (activeRule i r v s) := by
  unfold activeRule
  cases tripped : s.acts.rules[i].tripped with
  | true =>
    rw [if_pos rfl]
    split
    · exact clearRule_moves entry tripped
    · exact .refl
  | false =>
    rw [if_neg Bool.false_ne_true]
    split
    · exact tripRule_moves entry tripped _ _
    · exact .refl

theorem staleRule_moves : Moves s (staleRule i r s) := by
  unfold staleRule
  split
  · split
    · exact .refl
    · cases tripped : s.acts.rules[i].tripped with
      | true =>
        exact .refl
      | false =>
        rw [if_neg Bool.false_ne_true]
        exact tripRule_moves entry tripped _ _
  · exact inactiveRule_moves entry

end

theorem reportSample_moves (i : Slot) (r : SampleRule) (v : Int) (s : State) : Moves s (reportSample i r v s) := by
  unfold reportSample
  split
  · exact handNotice_moves _ s
  · exact .refl

theorem evaluateSlot_moves (c : Channel) (v : Int) (s : State) (i : Slot) : Moves s (evaluateSlot c v s i) := by
  unfold evaluateSlot
  split
  · next entry =>
    split
    · split
      · exact (activeRule_moves entry v).trans (reportSample_moves ..)
      · exact inactiveRule_moves entry
    · exact .refl
  · exact .refl

theorem evaluateSample_moves (c : Channel) (v : Int) (s : State) : Moves s (evaluateSample c v s) :=
  foldl_moves (evaluateSlot_moves c v) _ s

theorem staleSlot_moves (c : Channel) (s : State) (i : Slot) : Moves s (staleSlot c s i) := by
  unfold staleSlot
  split
  · next entry =>
    split
    · exact staleRule_moves entry
    · exact .refl
  · exact .refl

theorem staleReport_moves (c : Channel) (s : State) : Moves s (staleReport c s) := foldl_moves (staleSlot_moves c) _ s

/-- What an entry has to satisfy at a slot: its ranges, and its key's set (R74, R75). -/
def FitsSlot (i : Slot) (e : Option ActionEntry) : Prop := ∀ a, e = some a → a.inRange = true ∧ a.key % 8 = i.val / 4

theorem refillSlot_entries (i : Slot) (e : Option ActionEntry) (s : State) : (refillSlot i e s).acts.entries[i] = e :=
  vset_self ..

theorem replaceEntry_moves {i : Slot} {e : Option ActionEntry} (fits : FitsSlot i e) (s : State) :
    Moves s (replaceEntry i e s) := by
  have refilled : Moves s (refillSlot i e s) := .one (.refill fits s)
  have started : Moves (refillSlot i e s) (startEpisode i e (refillSlot i e s)) := by
    unfold startEpisode
    split
    · split
      · exact staleRule_moves (refillSlot_entries ..)
      · exact .refl
    · exact .refl
  exact refilled.trans started

theorem invalidateSlot_moves (s : State) (i : Slot) : Moves s (invalidateSlot s i) :=
  .one (.refill (fun _ h => absurd h.symm (Option.some_ne_none _)) s)

theorem resetRules_moves (s : State) : Moves s (resetRules s) := foldl_moves (fun s i => .one (.resetRule i s)) _ s

theorem applyFlushActions_moves (s : State) : Moves s (applyFlushActions s).1 := by
  have invalidated : Moves s ((allSlots.filter (flushed s)).foldl invalidateSlot s) := foldl_moves invalidateSlot_moves _ s
  unfold applyFlushActions
  split
  · exact .refl
  · simp only
    split
    · exact invalidated
    · exact invalidated.trans (Moves.quiet rfl rfl rfl rfl)

theorem applyLockActions_moves (count protect : Byte) (s : State) : Moves s (applyLockActions count protect s).1 := by
  simp only [applyLockActions]
  split
  · exact .refl
  · split
    · split
      · exact .refl
      · split
        · exact .refl
        · exact .quiet rfl rfl rfl rfl
    · exact .refl

/-! ### Probe Scheduler -/

theorem setChan_moves (c : Channel) (x : ChannelState) (s : State) : Moves s (setChan c x s) := .quiet rfl rfl rfl rfl

theorem joinQueue_moves (c : Channel) (s : State) : Moves s (joinQueue c s) := setChan_moves ..

theorem recomputeDebounce_moves (s : State) : Moves s (recomputeDebounce s) := .quiet rfl rfl rfl rfl

theorem debounceReport_moves (c : Channel) (s : State) : Moves s (debounceReport c s) := by
  unfold debounceReport
  split
  · split
    · exact recomputeDebounce_moves s
    · exact .refl
  · exact .refl

theorem goodSample_moves (c : Channel) (v : Int) (s : State) : Moves s (goodSample c v s) :=
  (((setChan_moves c _ s).trans (evaluateSample_moves c v _)).trans (gateReport_moves c _)).trans (debounceReport_moves c _)

theorem becomeMissing_moves (c : Channel) (s : State) : Moves s (becomeMissing c s) :=
  (((setChan_moves c _ s).trans (recordError_moves ..)).trans (staleReport_moves c _)).trans (gateReport_moves c _)

theorem checkMissing_moves (c : Channel) (s : State) : Moves s (checkMissing c s) := by
  simp only [checkMissing]
  split
  · exact becomeMissing_moves c s
  · exact .refl

theorem takeMiss_moves (c : Channel) (checked : Bool) (s : State) : Moves s (takeMiss c checked s) := by
  have counted : Moves s (countEvent .pollMisses
      (setChan c { s.probe.chans[c] with misses := min (s.probe.chans[c].misses + 1) 15 } s)) :=
    (setChan_moves c _ s).trans (countEvent_moves .pollMisses _)
  simp only [takeMiss]
  split
  · exact (counted.trans (recordError_moves ..)).trans (checkMissing_moves c _)
  · exact counted.trans (checkMissing_moves c _)

theorem classify_moves (c : Channel) (r : FieldResult) (s : State) : Moves s (classify c r s) := by
  cases r with
  | ack data =>
    simp only [classify]
    split
    · split
      · exact goodSample_moves c _ s
      · exact takeMiss_moves c false s
    · exact takeMiss_moves c true s
  | nak => exact takeMiss_moves c false s
  | checkFailed => exact takeMiss_moves c true s
  | timeout => exact takeMiss_moves c false s

theorem afterResult_moves (c : Channel) (s : State) : Moves s (afterResult c s) := by
  unfold afterResult
  split
  case h_1 => exact setChan_moves ..
  case h_2 => exact joinQueue_moves c s
  all_goals exact .refl

theorem takeResult_moves (c : Channel) (owned : Bool) (r : FieldResult) (s : State) : Moves s (takeResult c owned r s) := by
  unfold takeResult
  split
  · exact (classify_moves c r s).trans (afterResult_moves c _)
  · exact .refl

/-! ### Relay Unit: dispatch and the arbiter -/

theorem idleLink_moves (s : State) : Moves s (idleLink s) := .one (.link none fun _ h => absurd h.symm (Option.some_ne_none _))

theorem beginTransaction_moves {use : LinkUse} {s : State} (carries : use = .relay → s.relay.queue ≠ []) (module : Nat)
    (op : RelayOp) (register length : Nat) (data : List Byte) :
    Moves s (beginTransaction use module op register length data s) := by
  have counted : Moves s { s with relay.seq := s.relay.seq + 1 } := .quiet rfl rfl rfl rfl
  refine counted.trans (Moves.one (.link _ fun k hk h => .inl (carries ?_)))
  rw [← Option.some.inj hk] at h
  exact h

theorem dispatchRelay_moves (e : RelayEntry) {s : State} (held : s.relay.queue ≠ []) : Moves s (dispatchRelay e s) :=
  (beginTransaction_moves (fun _ => held) ..).trans (Moves.quiet rfl rfl rfl rfl)

theorem dispatchPoll_moves (c : Channel) (s : State) : Moves s (dispatchPoll c s) := by
  have dispatched : Moves s (countEvent .polls (dispatchChannel c s)) := (setChan_moves c _ s).trans (countEvent_moves _ _)
  exact (dispatched.trans (beginTransaction_moves LinkUse.noConfusion ..)).trans (Moves.quiet rfl rfl rfl rfl)

theorem relayReply_moves {s : State} {e : RelayEntry} {rest : List RelayEntry} (held : s.relay.queue = e :: rest)
    (unlinked : s.relay.link = none) (d : RelayEntry) (st : Status) (payload : List Byte) :
    Moves s (relayReply d st payload { s with relay.queue := rest }) :=
  (Moves.one (.answered held unlinked _)).trans (startTransmit_moves _)

theorem refuseAtDispatch_moves {s : State} {e : RelayEntry} {rest : List RelayEntry} (held : s.relay.queue = e :: rest)
    (unlinked : s.relay.link = none) : Moves s (refuseAtDispatch e s) := by
  have replied := relayReply_moves held unlinked e .guarded []
  unfold refuseAtDispatch
  rw [held]
  exact ((replied.trans (recordError_moves ..)).trans (countEvent_moves ..)).trans (reportRelayEmpty_moves _)

theorem queue_of_grantTo_relay {s : State} {e : RelayEntry} (h : grantTo s = .relay e) : ∃ rest, s.relay.queue = e :: rest := by
  unfold grantTo at h
  split at h
  case h_1 => exact absurd h Grant.noConfusion
  case h_2 => exact absurd h Grant.noConfusion
  case h_3 held => exact Grant.relay.inj h ▸ ⟨_, held⟩
  case h_4 held =>
    split at h
    · exact absurd h Grant.noConfusion
    · split at h
      · exact absurd h Grant.noConfusion
      · exact Grant.relay.inj h ▸ ⟨_, held⟩

theorem grants_moves (n : Nat) (s : State) : Moves s (grants n s) := by
  induction n generalizing s with
  | zero => exact .refl
  | succ n ih =>
    unfold grants
    split
    · next idle =>
      split
      · exact .refl
      · exact dispatchPoll_moves _ s
      · next granted =>
        obtain ⟨rest, held⟩ := queue_of_grantTo_relay granted
        split
        · exact (refuseAtDispatch_moves held (Option.isNone_iff_eq_none.1 idle)).trans (ih _)
        · exact dispatchRelay_moves _ (held ▸ List.cons_ne_nil _ _)
    · exact .refl

theorem arbitrate_moves (s : State) : Moves s (arbitrate s) := grants_moves _ s

/-! ### Relay Unit: loading -/

theorem disownPoll_moves (c : Channel) (s : State) : Moves s (disownPoll c s) := by
  refine .one (.link _ fun k hk use => .inr ?_)
  obtain ⟨l, hl, rfl⟩ := Option.map_eq_some_iff.1 hk
  refine ⟨l, hl, ?_⟩
  cases h : l.use with
  | relay => rfl
  | poll d owned =>
    rw [h] at use
    exact absurd use LinkUse.noConfusion
  | orphan =>
    rw [h] at use
    exact absurd (h ▸ use) LinkUse.noConfusion

theorem reloadChannel_moves {l : ChannelLoad} (ranges : l.entry.inRange = true) (s : State) :
    Moves s (reloadChannel l s) := by
  have replaced : Moves s (setChan l.channel
      (reloadedChannel s s.probe.table[l.channel] l.entry s.probe.chans[l.channel])
      (disownPoll l.channel { s with probe.table := vset s.probe.table l.channel l.entry })) :=
    ((Moves.one (.channel ranges l.channel s)).trans (disownPoll_moves ..)).trans (setChan_moves ..)
  simp only [reloadChannel]
  split
  · exact replaced
  · exact replaced.trans (checkMissing_moves ..)

/-! ### Relay Unit: taking a command -/

theorem answerRelayed_moves (r : FieldResult) {s : State} (unlinked : s.relay.link = none) :
    Moves s (answerRelayed r s) := by
  unfold answerRelayed
  split
  · next e rest held =>
    have replied := relayReply_moves held unlinked e (relayOutcome e r).1 (relayOutcome e r).2.1
    simp only
    split
    · exact (replied.trans (recordError_moves ..)).trans (reportRelayEmpty_moves _)
    · exact (replied.trans (countEvent_moves ..)).trans (reportRelayEmpty_moves _)
  · exact .refl

theorem endTransaction_moves (use : LinkUse) (r : FieldResult) (resultFirst : Bool) (s : State) :
    Moves s (endTransaction use r resultFirst s) := by
  have freed := idleLink_moves s
  cases use with
  | relay => exact (freed.trans (answerRelayed_moves r rfl)).trans (arbitrate_moves _)
  | poll c owned =>
    simp only [endTransaction]
    split
    · exact (freed.trans (takeResult_moves ..)).trans (arbitrate_moves _)
    · exact ((freed.trans (arbitrate_moves _)).trans (takeResult_moves ..)).trans (arbitrate_moves _)
  | orphan =>
    have late := (freed.trans (countEvent_moves .lateReply _)).trans (arbitrate_moves _)
    cases r with
    | timeout => exact freed.trans (arbitrate_moves _)
    | ack data => exact late
    | nak => exact late
    | checkFailed => exact late

theorem takeReply_moves (f : FieldReply) (resultFirst : Bool) (s : State) : Moves s (takeReply f resultFirst s) := by
  unfold takeReply
  split
  · exact .refl
  · exact endTransaction_moves ..
  · split
    · exact endTransaction_moves ..
    · exact countEvent_moves .lateReply s
  · exact countEvent_moves .lateReply s

theorem refuseRelayed_run (q : Relayed) (st : Status) (err : Option (ErrorClass × ErrorFields)) {s : State}
    (h : Accepts s) : Run s (refuseRelayed q st err s) := by
  have replied (r : Reply) : Run s (placeReply r s) := .claims .refl (.reply h r) (startTransmit_moves _)
  cases err with
  | none => exact (replied _).trans (countEvent_moves ..)
  | some e => exact ((replied _).trans (recordError_moves ..)).trans (countEvent_moves ..)

theorem takeRelayed_run (q : Relayed) {s : State} (h : Accepts s) : Run s (takeRelayed q s) := by
  unfold takeRelayed
  split
  · exact refuseRelayed_run _ _ _ h
  split
  · exact refuseRelayed_run _ _ _ h
  split
  · exact refuseRelayed_run _ _ _ h
  split
  · exact refuseRelayed_run _ _ _ h
  split
  · exact refuseRelayed_run _ _ _ h
  next distinct =>
  split
  · exact refuseRelayed_run _ _ _ h
  next room =>
  rw [List.any_eq_true] at distinct
  have apart : ∀ x ∈ s.relay.queue, x.tag ≠ q.tag := fun x hx e => distinct ⟨x, hx, decide_eq_true e⟩
  exact .claims .refl (.join h apart (Nat.not_le.1 room)) (arbitrate_moves _)

/-! ### Relay Unit: the drain timer (R19, R156) -/

/-- A command abandoned when the drain timer expires (R156). -/
def abandonedReply (e : RelayEntry) : Reply := { tag := e.tag, address := e.address, status := .abandoned, payload := [] }

/-- Where a reply waits already, a transmitter asked before another is placed does what one asked afterwards does (R165). -/
theorem placeReply_startTransmit {s : State} (h : s.panel.replies ≠ []) (r : Reply) :
    placeReply r (startTransmit s) = placeReply r s := by
  cases d : s.hpc.host.delivers with
  | false => rw [startTransmit_deaf d]
  | true =>
    by_cases i : s.panel.tx = .idle
    · rw [startTransmit_reply d i h, placeReply_idle d i]
      exact placeReply_busy Transmitter.noConfusion r
    · rw [startTransmit_busy i]

/-- A line of commands answered ABANDONED, the transmitter asked at each: it takes up the oldest reply (R156, R165). -/
theorem foldl_relayReply (e : RelayEntry) (l : List RelayEntry) (s : State) :
    (e :: l).foldl (fun s e => relayReply e .abandoned [] s) s
      = startTransmit { s with panel.replies := s.panel.replies ++ (e :: l).map abandonedReply } := by
  induction l using List.reverseRecOn with
  | nil => rfl
  | append_singleton l x ih =>
    have waits : s.panel.replies ++ (e :: l).map abandonedReply ≠ [] := by simp
    rw [← List.cons_append, List.foldl_append, ih]
    refine (placeReply_startTransmit waits (abandonedReply x)).trans ?_
    simp only [placeReply, List.map_append, List.append_assoc, List.map_cons, List.map_nil]

theorem abandonRelay_startTransmit (s : State) : abandonRelay (startTransmit s) = startTransmit (abandonRelay s) := by
  unfold startTransmit abandonRelay
  split
  · split
    · rfl
    · split <;> rfl
  · rfl

theorem drainExpires_moves {s : State} (h : s.hpc.host = .drain) : Moves s (drainExpires s) := by
  have answered : Moves s (abandonRelay (s.relay.queue.foldl (fun s e => relayReply e .abandoned [] s) s)) := by
    cases held : s.relay.queue with
    | nil => exact .one (.abandoned s)
    | cons e rest =>
      rw [foldl_relayReply, abandonRelay_startTransmit, ← held]
      exact (Moves.one (.drained abandonedReply s)).trans (startTransmit_moves _)
  refine answered.trans (beginRailOff_moves ?_)
  rw [abandonRelay_hpc]
  cases s.relay.queue with
  | nil => exact h
  | cons e rest => rw [foldl_relayReply, startTransmit_hpc]; exact h

end Sys2Proof.Machine
end

section
/-! SUPPORT. The Keymap Unit and the Keypad Scanner as chains of moves. -/

namespace Sys2Proof.Machine

open Sys2Proof

/-! ### Keymap Unit: positions and stack -/

/-- A position is replaced: a mark stands afterwards only where one stood, or where the host state reports keys (R141). -/
theorem setKey_moves (p : Position) {x : KeyPosition} {s : State}
    (marked : x.reported = true → s.keymap.positions[p].reported = true ∨ s.hpc.host.keysReported = true) :
    Moves s (setKey p x s) := by
  refine .one (.keys fun q hq => ?_)
  by_cases e : p = q
  · subst e
    rw [vset_self] at hq
    exact marked hq
  · rw [vset_other _ _ (Ne.symm e)] at hq
    exact .inl hq

theorem setKey_keeps_moves (p : Position) {x : KeyPosition} {s : State}
    (kept : x.reported = s.keymap.positions[p].reported) : Moves s (setKey p x s) :=
  setKey_moves p fun h => .inl (kept ▸ h)

theorem setKey_clears_moves (p : Position) {x : KeyPosition} {s : State} (cleared : x.reported = false) :
    Moves s (setKey p x s) :=
  setKey_moves p fun h => absurd (cleared ▸ h) Bool.false_ne_true

/-- A stack no longer than the one before it. -/
theorem setStack_moves {l : List StackEntry} {s : State} (h : l.length ≤ s.keymap.stack.length) : Moves s (setStack l s) :=
  .one (.stack (.inr h))

theorem setStack_map_moves (f : StackEntry → StackEntry) (s : State) : Moves s (setStack (s.keymap.stack.map f) s) :=
  setStack_moves (List.length_map f).le

theorem pushLayer_moves (p : Position) (layer : Fin 4) (termination : Fin 32) (count : Nat) (s : State) :
    Moves s (pushLayer p layer termination count s) := by
  unfold pushLayer
  split
  · exact recordError_moves ..
  · next room => exact .one (.stack (.inl (Nat.not_le.1 room)))

theorem terminate_moves (n : Nat) (s : State) : Moves s (terminate n s) := by
  induction n generalizing s with
  | zero => exact .refl
  | succ n ih =>
    unfold terminate
    split
    · next top rest h =>
      have popped : Moves s (setStack rest s) := setStack_moves (by rw [h]; exact Nat.le_succ _)
      split
      · exact popped.trans (ih _)
      · exact .refl
    · exact .refl

theorem terminationCheck_moves (s : State) : Moves s (terminationCheck s) := terminate_moves _ s

/-! ### Keymap Unit: presses -/

theorem keyNotice_moves (p : Position) (code : Nat) (d : Direction) (layer : Fin 4) (forced : Bool) (s : State) :
    Moves s (keyNotice p code d layer forced s) :=
  (handNotice_moves _ s).trans (countEvent_moves _ _)

theorem countTop_moves (s : State) : Moves s (countTop s) := by
  unfold countTop
  split
  · next h =>
    split
    · exact setStack_moves (by rw [h]; exact le_refl _)
    · exact .refl
  · exact .refl

theorem pressPlain_moves (p : Position) (code : Nat) (layer : Fin 4) (s : State) : Moves s (pressPlain p code layer s) := by
  have coded : Moves s (setKey p { s.keymap.positions[p] with code := some code } s) := setKey_keeps_moves p rfl
  simp only [pressPlain]
  split
  · next reports =>
    refine ((coded.trans (keyNotice_moves ..)).trans (setKey_moves p fun _ => .inr ?_)).trans (countTop_moves _)
    rw [keyNotice, countEvent_hpc, handNotice_hpc]
    exact reports
  · exact coded.trans (countEvent_moves _ _)

theorem pressLayer_moves (p : Position) (layer : Fin 4) (termination : Fin 32) (count delay : Nat) (s : State) :
    Moves s (pressLayer p layer termination count delay s) := by
  unfold pressLayer
  split
  · exact pushLayer_moves ..
  · exact setKey_keeps_moves p rfl

theorem serviceFlags_moves (f : ServiceFunction) (s : State) : Moves s (serviceFlags f s) := by
  cases f with
  | setFlag n => exact setUserFlag_moves n s
  | clearFlag n => exact clearUserFlag_moves n s
  | wake | ackLockout | requestRestart | requestShutdown => exact .refl

theorem serviceRequest_moves (f : ServiceFunction) (s : State) : Moves s (serviceRequest f s) := by
  cases f with
  | wake => exact wakeRequest_moves s
  | ackLockout => exact ackLockout_moves s
  | requestRestart => exact requestRestart_moves s
  | requestShutdown => exact requestShutdown_moves s
  | setFlag _ | clearFlag _ => exact .refl

theorem pressAction_moves (p : Position) (e : KeyEntry) (layer : Fin 4) (s : State) : Moves s (pressAction p e layer s) := by
  cases e with
  | plain code => exact pressPlain_moves ..
  | layer l t count delay => exact pressLayer_moves ..
  | clearOne => exact setStack_moves (by rw [List.length_tail]; exact Nat.sub_le _ _)
  | clearAll => exact setStack_moves (Nat.zero_le _)
  | service f c =>
    simp only [pressAction]
    split
    · exact serviceFlags_moves f s
    · exact .refl
  | none | transparent => exact .refl

theorem checkWithRequest_moves (request : Option ServiceFunction) (requestFirst : Bool) (s : State) :
    Moves s (checkWithRequest request requestFirst s) := by
  cases request with
  | none => exact terminationCheck_moves s
  | some f =>
    cases requestFirst with
    | true => exact (serviceRequest_moves f s).trans (terminationCheck_moves _)
    | false => exact (terminationCheck_moves s).trans (serviceRequest_moves f _)

theorem takePress_moves (p : Position) (requestFirst : Bool) (s : State) : Moves s (takePress p requestFirst s) := by
  have resolved : Moves s (recordResolution p (resolveKey (resetIdle s) p) (resetIdle s)) :=
    (setStack_map_moves _ s).trans (setKey_clears_moves p rfl)
  exact (resolved.trans (pressAction_moves ..)).trans (checkWithRequest_moves ..)

/-! ### Keymap Unit: releases and clearing -/

theorem releaseAction_moves (p : Position) (forced : Bool) (s : State) : Moves s (releaseAction p forced s) := by
  unfold releaseAction
  simp only
  split
  · split
    · exact keyNotice_moves ..
    · exact countEvent_moves ..
  · exact setKey_keeps_moves p rfl
  · exact .refl

theorem takeRelease_moves (p : Position) (forced : Bool) (s : State) : Moves s (takeRelease p forced s) := by
  have acted := (setStack_map_moves _ s).trans (releaseAction_moves p forced (releaseHeld p s))
  exact (acted.trans (setKey_clears_moves p rfl)).trans (terminationCheck_moves _)

theorem armExpires_moves (p : Position) (a : Arm) (s : State) : Moves s (armExpires p a s) := by
  have disarmed : Moves s (setKey p { s.keymap.positions[p] with arm := none } s) := setKey_keeps_moves p rfl
  exact disarmed.trans (pushLayer_moves ..)

theorem clearKeymap_moves (s : State) : Moves s (clearKeymap s) := by
  have emptied : Moves s (setStack [] s) := setStack_moves (Nat.zero_le _)
  refine emptied.trans (Moves.one (.keys fun p hp => ?_))
  rw [vmap_get] at hp
  exact absurd hp.symm Bool.noConfusion

/-! ### Keypad Scanner -/

theorem setPad_moves (p : Position) (x : PadPosition) (s : State) : Moves s (setPad p x s) := .quiet rfl rfl rfl rfl

theorem acceptPress_moves (p : Position) (requestFirst : Bool) (s : State) : Moves s (acceptPress p requestFirst s) := by
  unfold acceptPress
  simp only
  split
  · exact setPad_moves ..
  · exact (setPad_moves p _ s).trans (takePress_moves ..)

theorem acceptRelease_moves (p : Position) (previous : StableState) (s : State) :
    Moves s (acceptRelease p previous s) := by
  cases previous with
  | closed => exact (setPad_moves p _ s).trans (takeRelease_moves ..)
  | masked => exact setPad_moves ..

theorem unmaskIfFree_moves (p : Position) (requestFirst : Bool) (s : State) : Moves s (unmaskIfFree p requestFirst s) := by
  unfold unmaskIfFree
  split
  · exact (setPad_moves p _ s).trans (takePress_moves ..)
  · exact .refl

theorem stuckTest_moves (p : Position) (s : State) : Moves s (stuckTest p s) := by
  unfold stuckTest
  simp only
  split
  · split
    · exact (setPad_moves p _ s).trans (takeRelease_moves ..)
    · exact setPad_moves ..
  · exact .refl

theorem stepClosing_moves (p : Position) (n : Nat) (requestFirst : Bool) (s : State) :
    Moves s (stepClosing p n requestFirst s) := by
  unfold stepClosing
  split
  · exact acceptPress_moves ..
  · exact setPad_moves ..

theorem stepOpening_moves (p : Position) (n : Nat) (previous : StableState) (s : State) :
    Moves s (stepOpening p n previous s).1 := by
  unfold stepOpening
  split
  · exact acceptRelease_moves ..
  · exact setPad_moves ..

theorem returnStable_moves (p : Position) (requestFirst : Bool) (s : State) : Moves s (returnStable p requestFirst s) := by
  unfold returnStable
  simp only
  split
  · exact (setPad_moves p _ s).trans (unmaskIfFree_moves ..)
  · exact setPad_moves ..

theorem stepStuck_moves (p : Position) (s : State) : Moves s (stepStuck p s).1 := by
  simp only [stepStuck]
  split
  · exact setPad_moves ..
  · exact setPad_moves ..

theorem scanPosition_moves (p : Position) (closed requestFirst : Bool) (s : State) :
    Moves s (scanPosition p closed requestFirst s).1 := by
  unfold scanPosition
  simp only
  split
  · exact .refl
  · exact stepClosing_moves ..
  · exact stepClosing_moves ..
  · exact setPad_moves ..
  · exact stuckTest_moves ..
  · exact stuckTest_moves ..
  · exact stepOpening_moves ..
  · exact stepOpening_moves ..
  · exact stepOpening_moves ..
  · exact returnStable_moves ..
  · exact stepStuck_moves ..
  · exact setPad_moves ..

theorem foldl_scanVisit_moves (readings requestFirst : BitVec 64) (l : List Position) (acc : State × Bool) :
    Moves acc.1 (l.foldl (scanVisit readings requestFirst) acc).1 :=
  List.foldlRecOn l (scanVisit readings requestFirst) (motive := fun t => Moves acc.1 t.1) .refl fun _ ht _ _ => ht.trans (scanPosition_moves ..)

theorem processScan_moves (readings requestFirst : BitVec 64) (s : State) :
    Moves s (processScan readings requestFirst s) := by
  have visited := foldl_scanVisit_moves readings requestFirst allPositions (s, false)
  simp only [processScan]
  split
  · exact visited.trans (foldl_moves (fun s p => unmaskIfFree_moves p _ s) _ _)
  · exact visited

theorem unmaskAtLoad_moves (requestFirst : BitVec 64) (s : State) (p : Position) :
    Moves s (unmaskAtLoad requestFirst s p) := by
  unfold unmaskAtLoad
  simp only
  split
  · exact (setPad_moves p _ s).trans (takePress_moves ..)
  · exact (setPad_moves p _ s).trans (takePress_moves ..)
  · exact .refl

theorem applyLoadKeypad_moves (requestFirst : BitVec 64) {r : KeypadRecord} (ranges : r.inRange = true) (s : State) :
    Moves s (applyLoadKeypad requestFirst r s).1 := by
  have recomputed : Moves s (recomputeDebounce { s with pad.record := r }) :=
    (Moves.one (.keypad ranges s)).trans (recomputeDebounce_moves _)
  simp only [applyLoadKeypad]
  split
  · exact recomputed.trans (foldl_moves (unmaskAtLoad_moves requestFirst) _ _)
  · exact recomputed

theorem resetKeys_moves (s : State) : Moves s (resetKeys s) := by
  have released := foldl_moves (fun s p => takeRelease_moves p true s)
    (allPositions.filter fun p => releasedAtReset s.pad.positions[p]) s
  have opened (u : State) : Moves u { u with pad.positions := vmap (fun _ => PadPosition.initial) u.pad.positions } :=
    .quiet rfl rfl rfl rfl
  exact (released.trans (opened _)).trans (clearKeymap_moves _)

end Sys2Proof.Machine
end

section
/-! SUPPORT. The remaining operations as chains of moves, and from them what every command but power-on and power loss does. -/

namespace Sys2Proof.Machine

open Sys2Proof

/-! ### Heater Allocator -/

theorem startPeriod_moves (t : Nat) (s : State) : Moves s (startPeriod t s) := by
  have begun : Moves s { s with heat.periodStart := some t } := .quiet rfl rfl rfl rfl
  have computed := begun.trans (Moves.one (.period _))
  simp only [startPeriod, periodComputation]
  simp only [periodComputation] at computed
  split
  · next limited =>
    rw [if_pos limited] at computed
    exact computed.trans (countEvent_moves .limitedPeriods _)
  · next limited =>
    rw [if_neg limited] at computed
    exact computed

/-! ### Operations at their owners -/

/-- A record that decodes is loaded, and any other payload changes nothing. -/
theorem loadOp_moves {α : Type} {P : α → Prop} {decoded : Option α} (reads : Answers P decoded)
    {load : α → State → State × Answer} (h : ∀ r, P r → ∀ s, Moves s (load r s).1) (s : State) :
    Moves s (loadOp decoded load s).1 := by
  unfold loadOp
  split
  · exact .refl
  · split
    · exact h _ (reads _ rfl) s
    · exact .refl

theorem applyLoadZone_moves {l : ZoneLoad} (ranges : l.record.inRange = true) (s : State) :
    Moves s (applyLoadZone l s).1 := by
  unfold applyLoadZone
  split
  · exact .refl
  · exact .one (.zone ranges s)

theorem ActionLoad.Fits.fitsSlot {a : ActionLoad} (fits : a.Fits) (w : Fin 4) : FitsSlot (slotOf a.set w) a.entry := by
  intro e he
  obtain ⟨ranges, key⟩ := fits e he
  have set : (slotOf a.set w).val / 4 = a.set.val := by simp only [slotOf]; omega
  exact ⟨ranges, key.trans set.symm⟩

theorem applyLoadAction_moves {a : ActionLoad} (fits : a.Fits) (s : State) : Moves s (applyLoadAction a s).1 := by
  unfold applyLoadAction
  split
  · exact replaceEntry_moves (fits.fitsSlot _) s
  · exact .refl

theorem applyLoadChannel_moves {l : ChannelLoad} (ranges : l.entry.inRange = true) (s : State) :
    Moves s (applyLoadChannel l s).1 :=
  (reloadChannel_moves ranges s).trans (arbitrate_moves _)

theorem applySetFlags_moves (set clear : Byte) (s : State) : Moves s (applySetFlags set clear s).1 := by
  unfold applySetFlags
  split
  · exact .refl
  · exact .quiet rfl rfl rfl rfl

theorem applyWriteOutputs_moves (mode : Byte) (data : Word) (s : State) : Moves s (applyWriteOutputs mode data s).1 := by
  unfold applyWriteOutputs
  split
  · exact .quiet rfl rfl rfl rfl
  · exact .refl

theorem applySetOutputMask_moves (plane foreground : Word) (indicator : Byte) (s : State) :
    Moves s (applySetOutputMask plane foreground indicator s).1 := by
  unfold applySetOutputMask
  split
  · exact .refl
  · exact .quiet rfl rfl rfl rfl

theorem applySetIgnore_moves (mask : Word) (s : State) : Moves s (applySetIgnore mask s).1 := by
  unfold applySetIgnore
  split
  · exact .refl
  · exact .one (.ignore mask s)

theorem applyCounterSelect_moves (counter event : Byte) (s : State) : Moves s (applyCounterSelect counter event s).1 := by
  unfold applyCounterSelect
  split
  · split
    · exact .one (.select _ _ s)
    · exact .refl
  · exact .refl

theorem readStatus_fst (part : Byte) (record : State → Option (List Byte)) (s : State) :
    (readStatus part record s).1 = s := by
  unfold readStatus
  split
  · rfl
  · rfl

theorem resetBlocks_moves (s : State) : Moves s (resetBlocks s) := by
  have abandoned : Moves s (abandonRelay s) := .one (.abandoned s)
  exact ((abandoned.trans (resetKeys_moves _)).trans (resetRules_moves _)).trans (Moves.one (.resetRecords _))

theorem applySupervisorReset_moves (s : State) : Moves s (applySupervisorReset s).1 := by
  simp only [applySupervisorReset]
  exact (resetBlocks_moves s).trans (resetQueues_moves _)

theorem recordHostCheck_moves (s : State) : Moves s (recordHostCheck s) := by
  unfold recordHostCheck
  split
  · exact recordError_moves ..
  · exact .refl

/-! ### The end of the image load (R2) -/

theorem settleHost_moves {s : State} (loading : s.power = .loading) :
    Moves s (settleHost { s with power := .running }) := by
  unfold settleHost
  split
  · have settled : Moves (preheating s) (moveHost .preheat { preheating s with power := .running }) :=
      .one (.settled loading)
    exact ((preheating_moves s).trans settled).trans (evaluateGate_moves _)
  · exact .one (.supplied s)

theorem beginScan_moves (t : Nat) (s : State) : Moves s (beginScan t s) := .quiet rfl rfl rfl rfl

theorem queueChannels_moves (s : State) : Moves s (queueChannels s) := by
  refine .quiet ?_ rfl rfl rfl
  simp only [core, queueChannels]

theorem completeLoad_moves {s : State} (loading : s.power = .loading) : Moves s (completeLoad s) := by
  have settled := (settleHost_moves loading).trans (recomputeDebounce_moves _)
  have begun (u : State) : Moves u (beginScan u.now (startPeriod u.now u)) :=
    (startPeriod_moves _ u).trans (beginScan_moves ..)
  have ticking (u : State) : Moves u { u with keymap.nextTick := some (u.now + Config.layerTick) } := .quiet rfl rfl rfl rfl
  exact (((settled.trans (begun _)).trans (ticking _)).trans (queueChannels_moves _)).trans (arbitrate_moves _)

/-! ### Commands that complete -/

/-- A result is a next state that a run leads to. -/
def Completes (s : State) (r : Result) : Prop := ∃ t, r = .next t ∧ Run s t

theorem Run.completes {s t : State} (h : Run s t) : Completes s (finish t) := ⟨_, rfl, h.trans (startTransmit_moves t)⟩

theorem Moves.completes {s t : State} (h : Moves s t) : Completes s (finish t) := (Run.moves h).completes

theorem Completes.of_moves {s u : State} {r : Result} (h : Moves s u) (k : Completes u r) : Completes s r := by
  obtain ⟨t, rfl, run⟩ := k
  exact ⟨t, rfl, run.of_moves h⟩

/-- The relay's report is taken first, and the event then acts (R18). -/
theorem upon_completes {event : State → Result} (h : ∀ s, Completes s (event s)) (s : State) :
    Completes s (upon s event) :=
  (h _).of_moves (reportRelayEmpty_moves s)

theorem onExpiry_completes {timer : Option Timer} {act : State → State} {s : State}
    (h : ∀ t, timer = some t → Moves (reach t.deadline s) (act (reach t.deadline s))) :
    Completes s (onExpiry timer act s) := by
  cases timer with
  | none => exact Moves.completes .refl
  | some t => exact Moves.completes ((reach_moves t.deadline s).trans (h t rfl))

/-- An expiry in one host state. -/
theorem onExpiry_completes_in {p : Prop} [Decidable p] {timer : Option Timer} {act : State → State} {s : State}
    (h : p → ∀ n, Moves (reach n s) (act (reach n s))) : Completes s (onExpiry (if p then timer else none) act s) :=
  onExpiry_completes fun t ht => h (Option.ite_none_right_eq_some.1 ht).1 t.deadline

/-! ### Frames -/

theorem takeFrame_run (tag : Tag) {handOn : State → State} {s : State} (h : Accepts s → Run s (handOn s)) :
    Run s (takeFrame tag handOn s) := by
  unfold takeFrame
  split
  · next delivers =>
    split
    · next room => exact h ⟨delivers, room⟩
    · exact .moves (recordError_moves ..)
  · exact .moves .refl

theorem placeReply_run (r : Reply) {s t : State} (accepts : Accepts s) (h : Moves s t) (delivers : t.hpc.host.delivers = true) :
    Run s (placeReply r t) :=
  .claims h (.reply ⟨delivers, lt_of_le_of_lt (Moves.occupied_le h) accepts.2⟩ r) (startTransmit_moves _)

theorem takeMalformed_run (tag : Tag) (op : Byte) (address : Addr) (s : State) : Run s (takeMalformed tag op address s) :=
  takeFrame_run tag fun accepts => (placeReply_run _ accepts .refl accepts.1).trans (recordError_moves ..)

theorem answer_run (tag : Tag) (op : Byte) (a : Answer) {s t : State} (accepts : Accepts s) (h : Moves s t) :
    Run s (answer tag op a t) := by
  have placed : Run s (if t.hpc.host.delivers then
      placeReply { tag := tag, address := 0, status := a.status, payload := a.payload, restart := a.restart } t else t) := by
    split
    · next delivers => exact placeReply_run _ accepts h delivers
    · exact .moves h
  by_cases bad : a.status = .badRequest
  · simp only [answer, if_pos bad]
    exact placed.trans (recordError_moves ..)
  · simp only [answer, if_neg bad]
    exact placed

theorem supervisorOp_completes (tag : Tag) (op : Byte) {owner : State → State × Answer} (h : ∀ s, Moves s (owner s).1)
    (s : State) : Completes s (supervisorOp tag op owner s) := by
  unfold supervisorOp
  exact Run.completes (takeFrame_run tag fun accepts => answer_run tag op _ accepts (h s))

theorem statusOp_completes (tag : Tag) (part : Byte) (record : State → Option (List Byte)) (s : State) :
    Completes s (statusOp tag part record s) :=
  supervisorOp_completes tag 0x50 (fun u => Moves.to_eq .refl (readStatus_fst part record u)) s

theorem recordOp_completes (tag : Tag) (op : Byte) (fits : Bool) {owner : State → State × Answer}
    (h : ∀ s, Moves s (owner s).1) (s : State) : Completes s (recordOp tag op fits owner s) := by
  cases fits with
  | true => exact supervisorOp_completes tag op h s
  | false => exact (takeMalformed_run tag op 0 s).completes

theorem takeStoreImage_run (tag : Tag) (code : Byte) {s : State} (accepts : Accepts s) :
    Run s (takeStoreImage tag code s) := by
  unfold takeStoreImage
  split
  · exact answer_run _ _ _ accepts .refl
  · next idle =>
    split
    · exact .claims .refl (.store accepts (Bool.eq_false_iff.2 idle) tag _) .refl
    · exact answer_run _ _ _ accepts .refl

end Sys2Proof.Machine
end

section
/-! SUPPORT. Every command but power-on and power loss is a run: a chain of moves with at most one claim of a reply entry. -/

namespace Sys2Proof.Machine

open Sys2Proof

/-! ### Chapters 1 and 6 -/

theorem execPreheatTimerExpiry_completes (s : State) : Completes s (execPreheatTimerExpiry s) :=
  upon_completes (fun _ => onExpiry_completes_in fun host _ => forcedStartTest_moves host) s

theorem execSoakTimerExpiry_completes (s : State) : Completes s (execSoakTimerExpiry s) :=
  upon_completes (fun _ => onExpiry_completes_in fun host _ => completeSoak_moves host) s

theorem powerGood_moves (v : Vector Bool 3) (s : State) : Moves s { s with hpc.powerGood := v } := .quiet rfl rfl rfl rfl

theorem railUp_moves (k : Rail) (s : State) : Moves s (railUp k s) := .quiet rfl rfl rfl rfl

theorem execPowerGoodArrival_completes (k : Rail) (s : State) : Completes s (execPowerGoodArrival k s) := by
  refine upon_completes (fun s => ?_) s
  have risen := powerGood_moves (vset s.hpc.powerGood k true) s
  simp only
  split
  · split
    · exact Moves.completes (risen.trans (railUp_moves k _))
    · exact Moves.completes risen
  · exact Moves.completes risen

theorem execPgTimeoutExpiry_completes (s : State) : Completes s (execPgTimeoutExpiry s) := by
  refine upon_completes (fun s => ?_) s
  split
  · next st _ =>
    split
    · next waits =>
      refine Moves.completes ((reach_moves st.timer.deadline s).trans (railFault_moves _ ?_))
      simp only [railWatched, reach_hpc, waits.1]
    · exact Moves.completes .refl
  · exact Moves.completes .refl

theorem execSettleExpiry_completes (s : State) : Completes s (execSettleExpiry s) := by
  refine upon_completes (fun s => ?_) s
  split
  · next st _ =>
    split
    · next settles =>
      exact Moves.completes ((reach_moves st.timer.deadline s).trans (settleEnds_moves _ settles.1))
    · exact Moves.completes .refl
  · exact Moves.completes .refl

theorem execPowerGoodFall_completes (k : Rail) (s : State) : Completes s (execPowerGoodFall k s) := by
  refine upon_completes (fun s => ?_) s
  have fallen := powerGood_moves (vset s.hpc.powerGood k false) s
  simp only
  split
  · next faulty =>
    rw [Bool.and_eq_true] at faulty
    exact Moves.completes (fallen.trans (railFault_moves k faulty.2))
  · exact Moves.completes fallen

theorem execOffSettleExpiry_completes (s : State) : Completes s (execOffSettleExpiry s) := by
  refine upon_completes (fun s => onExpiry_completes fun t ht => ?_) s
  obtain ⟨host, settles⟩ := Option.ite_none_right_eq_some.1 ht
  exact offSettleStep_moves host (by rw [reach_hpc, settles]; rfl)

theorem execDrainTimerExpiry_completes (s : State) : Completes s (execDrainTimerExpiry s) :=
  upon_completes (fun _ => onExpiry_completes_in fun host _ => drainExpires_moves host) s

theorem execBootWindowExpiry_completes (s : State) : Completes s (execBootWindowExpiry s) :=
  upon_completes (fun _ => onExpiry_completes_in fun host _ => escalate_moves _ (by rw [reach_hpc, host]; rfl)) s

theorem execHeartbeatTimerExpiry_completes (s : State) : Completes s (execHeartbeatTimerExpiry s) :=
  upon_completes (fun _ => onExpiry_completes_in fun host _ => enterWarn_moves host) s

theorem execGraceExpiry_completes (s : State) : Completes s (execGraceExpiry s) :=
  upon_completes (fun _ => onExpiry_completes_in fun host _ => escalate_moves _ (by rw [reach_hpc, host]; rfl)) s

theorem execStableTimeReached_completes (s : State) : Completes s (execStableTimeReached s) := by
  refine upon_completes (fun s => onExpiry_completes_in fun _ n => ?_) s
  exact (Moves.one (.steady _)).trans (Moves.quiet rfl rfl rfl rfl)

theorem execResetPulseExpiry_completes (s : State) : Completes s (execResetPulseExpiry s) :=
  upon_completes (fun _ => onExpiry_completes_in fun host _ => enterBoot_moves (.inr host)) s

theorem execPowerOffExpiry_completes (s : State) : Completes s (execPowerOffExpiry s) :=
  upon_completes (fun _ => onExpiry_completes_in fun host _ => enterPreheat_moves (.inr (.inl host))) s

theorem execLockoutRetryExpiry_completes (s : State) : Completes s (execLockoutRetryExpiry s) :=
  upon_completes (fun _ => onExpiry_completes_in fun host _ => exitLockout_moves host) s

/-! ### Chapters 2, 3 and 9 -/

theorem driveOutput_moves (z : Zone) (s : State) : Moves s (driveOutput z s) := .one (.drive z s)

theorem execControlPeriodStart_completes (s : State) : Completes s (execControlPeriodStart s) := by
  refine upon_completes (fun s => ?_) s
  split
  · exact Moves.completes ((reach_moves _ s).trans (startPeriod_moves _ _))
  · exact Moves.completes .refl

theorem execDriveWindowEdge_completes (z : Zone) (s : State) : Completes s (execDriveWindowEdge z s) := by
  refine upon_completes (fun s => ?_) s
  split
  · split
    · exact Moves.completes (driveOutput_moves z s)
    · split
      · exact Moves.completes ((reach_moves _ s).trans (driveOutput_moves z _))
      · exact Moves.completes .refl
  · exact Moves.completes .refl

theorem execRead_completes (tag : Tag) (address : Addr) (length : Byte) (s : State) :
    Completes s (execRead tag address length s) := by
  refine upon_completes (fun s => ?_) s
  split
  · exact Run.completes (takeFrame_run tag fun accepts => takeRelayed_run _ accepts)
  · exact (takeMalformed_run ..).completes

theorem execWrite_completes (tag : Tag) (address : Addr) (data : List Byte) (s : State) :
    Completes s (execWrite tag address data s) := by
  refine upon_completes (fun s => ?_) s
  split
  · exact Run.completes (takeFrame_run tag fun accepts => takeRelayed_run _ accepts)
  · exact (takeMalformed_run ..).completes

theorem receiveReply_moves (s : State) : Moves s { s with relay.partialReply := [] } := .quiet rfl rfl rfl rfl

theorem execFieldReply_completes (bytes : List Byte) (resultFirst : Bool) (s : State) :
    Completes s (execFieldReply bytes resultFirst s) := by
  refine upon_completes (fun s => ?_) s
  split
  · exact Moves.completes .refl
  · exact Moves.completes ((receiveReply_moves s).trans (takeReply_moves ..))

theorem execFieldTimeoutExpiry_completes (resultFirst : Bool) (s : State) :
    Completes s (execFieldTimeoutExpiry resultFirst s) := by
  refine upon_completes (fun s => ?_) s
  split
  · split
    · exact Moves.completes ((reach_moves _ s).trans (endTransaction_moves ..))
    · exact Moves.completes .refl
  · exact Moves.completes .refl

theorem execCPortRequestEnd_completes (s : State) : Completes s (execCPortRequestEnd s) := by
  refine upon_completes (fun s => ?_) s
  split
  · next l linked =>
    split
    · refine Moves.completes (.one (.link _ fun k hk use => .inr ⟨l, linked, ?_⟩))
      rw [← Option.some.inj hk] at use
      exact use
    · exact Moves.completes .refl
  · exact Moves.completes .refl

theorem execDueTimeReached_completes (c : Channel) (s : State) : Completes s (execDueTimeReached c s) := by
  refine upon_completes (fun s => ?_) s
  split
  · exact Moves.completes (((reach_moves _ s).trans (joinQueue_moves c _)).trans (arbitrate_moves _))
  · exact Moves.completes ((reach_moves _ s).trans (setChan_moves ..))
  · exact Moves.completes .refl

/-! ### Chapters 7 and 8 -/

theorem execScanStart_completes (s : State) : Completes s (execScanStart s) := by
  refine upon_completes (fun s => ?_) s
  split
  · split
    · exact Moves.completes .refl
    · exact Moves.completes ((reach_moves _ s).trans (beginScan_moves ..))
  · exact Moves.completes .refl

theorem execScanComplete_completes (readings requestFirst : BitVec 64) (s : State) :
    Completes s (execScanComplete readings requestFirst s) := by
  refine upon_completes (fun s => ?_) s
  have ended : Moves s { s with pad.scanning := false } := .quiet rfl rfl rfl rfl
  split
  · exact Moves.completes (ended.trans (processScan_moves ..))
  · exact Moves.completes .refl

theorem execArmDelayExpiry_completes (p : Position) (s : State) : Completes s (execArmDelayExpiry p s) := by
  refine upon_completes (fun s => ?_) s
  split
  · exact Moves.completes ((reach_moves _ s).trans (armExpires_moves ..))
  · exact Moves.completes .refl

theorem execLayerTick_completes (s : State) : Completes s (execLayerTick s) := by
  refine upon_completes (fun s => ?_) s
  split
  · next t _ =>
    have ticked : Moves s { reach t s with keymap.nextTick := some (t + Config.layerTick) } :=
      (reach_moves t s).trans (Moves.quiet rfl rfl rfl rfl)
    exact Moves.completes ((ticked.trans (setStack_map_moves _ _)).trans (terminationCheck_moves _))
  · exact Moves.completes .refl

/-! ### Chapter 10 -/

theorem execImageLoadComplete_completes (s : State) : Completes s (execImageLoadComplete s) := by
  refine upon_completes (fun s => ?_) s
  split
  · next loading => exact Moves.completes (completeLoad_moves loading)
  · exact Moves.completes .refl

theorem receiveFrame_moves (s : State) : Moves s { s with panel.partialFrame := [] } := .quiet rfl rfl rfl rfl

theorem execTransmitComplete_completes (s : State) : Completes s (execTransmitComplete s) := by
  refine upon_completes (fun s => ?_) s
  split
  · exact Moves.completes .refl
  · exact Moves.completes (replySent_moves s)
  · exact Moves.completes (.one (.noticeSent s))

theorem execStoreComplete_completes (s : State) : Completes s (execStoreComplete s) := by
  refine upon_completes (fun s => ?_) s
  split
  · next captured claim bound storing =>
    cases claim with
    | some tag => exact Moves.completes ((Moves.one (.storedReply storing _)).trans (startTransmit_moves _))
    | none => exact Moves.completes (.one (.stored storing))
  · exact Moves.completes .refl
  · exact Moves.completes .refl

theorem load_completes {α : Type} {P : α → Prop} {decoded : Option α} (reads : Answers P decoded)
    {load : α → State → State × Answer} (h : ∀ r, P r → ∀ s, Moves s (load r s).1) (tag : Tag) (op : Byte) (fits : Bool)
    (s : State) : Completes s (upon s fun s => recordOp tag op fits (loadOp decoded load) s) :=
  upon_completes (recordOp_completes tag op fits (loadOp_moves reads h)) s

theorem owner_completes {owner : State → State × Answer} (h : ∀ s, Moves s (owner s).1) (tag : Tag) (op : Byte) (s : State) :
    Completes s (upon s fun s => supervisorOp tag op owner s) :=
  upon_completes (supervisorOp_completes tag op h) s

theorem status_completes (tag : Tag) (part : Byte) (record : State → Option (List Byte)) (s : State) :
    Completes s (upon s fun s => statusOp tag part record s) :=
  upon_completes (statusOp_completes tag part record) s

/-! ### All commands -/

/-- The commands that apply or remove supply, which begin a new state (R2, R170). -/
def changesSupply : Instr → Bool
  | .powerOn | .powerLoss => true
  | _ => false

/-- Every other command completes, and what it does is a run. -/
theorem exec_completes {i : Instr} (h : changesSupply i = false) (s : State) : Completes s (exec i s) := by
  cases i with
  | powerOn | powerLoss => exact absurd h.symm Bool.false_ne_true
  | imageLoadComplete => exact execImageLoadComplete_completes s
  | read tag address length => exact execRead_completes tag address length s
  | write tag address data => exact execWrite_completes tag address data s
  | heartbeat tag seq => exact owner_completes (applyHeartbeat_moves seq) tag _ s
  | hostRestart tag kind => exact owner_completes (applyHostRestart_moves kind) tag _ s
  | shutdown tag keepWarm => exact owner_completes (applyShutdown_moves keepWarm) tag _ s
  | loadSequence tag p =>
    exact load_completes (readSequence_answers p) (fun _ ranges s => .one (.sequence ranges s)) tag _ _ s
  | loadLadder tag p => exact load_completes (readLadder_answers p) (fun _ ranges s => .one (.ladder ranges s)) tag _ _ s
  | loadZone tag p => exact load_completes (readZone_answers p) (fun _ => applyLoadZone_moves) tag _ _ s
  | loadBudget tag p => exact load_completes (readBudget_answers p) (fun _ ranges s => .one (.budget ranges s)) tag _ _ s
  | loadChannel tag p => exact load_completes (readChannel_answers p) (fun _ => applyLoadChannel_moves) tag _ _ s
  | loadPoll tag p => exact load_completes (readPoll_answers p) (fun _ ranges s => .one (.poll ranges s)) tag _ _ s
  | loadAction tag p =>
    exact load_completes (readAction_answers p) (fun _ read => applyLoadAction_moves read.1) tag _ _ s
  | lockActions tag count protect => exact owner_completes (applyLockActions_moves count protect) tag _ s
  | flushActions tag => exact owner_completes applyFlushActions_moves tag _ s
  | loadWindow tag p =>
    exact load_completes (readWindow_answers p) (fun _ ranges s => .one (.window ranges _ s)) tag _ _ s
  | loadKeypad tag p requestFirst =>
    exact load_completes (fun _ => readKeypad_inRange) (fun _ => applyLoadKeypad_moves requestFirst) tag _ _ s
  | loadKeymapEntry tag p =>
    exact load_completes (readKeymapEntry_answers p) (fun _ ranges s => .one (.keymapEntry ranges _ s)) tag _ _ s
  | loadKeymapSettings tag p =>
    exact load_completes (readKeymapSettings_answers p) (fun _ ranges s => .one (.keymapTimeout ranges s)) tag _ _ s
  | clearLayers tag => exact owner_completes (fun s => setStack_moves (Nat.zero_le _)) tag _ s
  | setFlags tag set clear => exact owner_completes (applySetFlags_moves set clear) tag _ s
  | writeOutputs tag mode data => exact owner_completes (applyWriteOutputs_moves mode data) tag _ s
  | setOutputMask tag plane foreground indicator =>
    exact owner_completes (applySetOutputMask_moves plane foreground indicator) tag _ s
  | errorClear tag mask => exact owner_completes (fun s => .one (.forget mask s)) tag _ s
  | setIgnore tag mask => exact owner_completes (applySetIgnore_moves mask) tag _ s
  | counterSelect tag counter event => exact owner_completes (applyCounterSelect_moves counter event) tag _ s
  | statusReadHost tag part => exact status_completes tag part _ s
  | statusReadLog tag part index => exact status_completes tag part _ s
  | statusReadHeat tag part => exact status_completes tag part _ s
  | statusReadProbe tag part channel => exact status_completes tag part _ s
  | statusReadConditions tag part => exact status_completes tag part _ s
  | statusReadActions tag part set => exact status_completes tag part _ s
  | statusReadKeypad tag part => exact status_completes tag part _ s
  | statusReadKeymap tag part layer position => exact status_completes tag part _ s
  | statusReadRelay tag part => exact status_completes tag part _ s
  | statusReadOutputs tag part => exact status_completes tag part _ s
  | statusReadErrors tag part => exact status_completes tag part _ s
  | statusReadCounters tag part => exact status_completes tag part _ s
  | statusReadLink tag part => exact status_completes tag part _ s
  | storeImage tag speed =>
    exact upon_completes (fun _ => Run.completes (takeFrame_run tag fun accepts => takeStoreImage_run tag speed accepts)) s
  | storeComplete => exact execStoreComplete_completes s
  | supervisorReset tag => exact owner_completes applySupervisorReset_moves tag _ s
  | hostCheckFrame => exact upon_completes (fun s => Moves.completes (recordHostCheck_moves s)) s
  | malformedFrame tag op address => exact upon_completes (fun s => (takeMalformed_run tag op address s).completes) s
  | frameLengthAbandon =>
    exact upon_completes (fun s => Moves.completes ((receiveFrame_moves s).trans (recordHostCheck_moves _))) s
  | frameIdleAbandon => exact upon_completes (fun s => Moves.completes (receiveFrame_moves s)) s
  | transmitComplete => exact execTransmitComplete_completes s
  | preheatTimerExpiry => exact execPreheatTimerExpiry_completes s
  | soakTimerExpiry => exact execSoakTimerExpiry_completes s
  | powerGoodArrival rail => exact execPowerGoodArrival_completes rail s
  | pgTimeoutExpiry => exact execPgTimeoutExpiry_completes s
  | settleExpiry => exact execSettleExpiry_completes s
  | powerGoodFall rail => exact execPowerGoodFall_completes rail s
  | drainTimerExpiry => exact execDrainTimerExpiry_completes s
  | offSettleExpiry => exact execOffSettleExpiry_completes s
  | wakeEdge => exact upon_completes (fun s => Moves.completes (wakeRequest_moves s)) s
  | bootWindowExpiry => exact execBootWindowExpiry_completes s
  | heartbeatTimerExpiry => exact execHeartbeatTimerExpiry_completes s
  | graceExpiry => exact execGraceExpiry_completes s
  | stableTimeReached => exact execStableTimeReached_completes s
  | resetPulseExpiry => exact execResetPulseExpiry_completes s
  | powerOffExpiry => exact execPowerOffExpiry_completes s
  | lockoutRetryExpiry => exact execLockoutRetryExpiry_completes s
  | controlPeriodStart => exact execControlPeriodStart_completes s
  | driveWindowEdge zone => exact execDriveWindowEdge_completes zone s
  | dueTimeReached channel => exact execDueTimeReached_completes channel s
  | fieldReply bytes resultFirst => exact execFieldReply_completes bytes resultFirst s
  | fieldTimeoutExpiry resultFirst => exact execFieldTimeoutExpiry_completes resultFirst s
  | cPortReplyGap => exact upon_completes (fun s => Moves.completes (receiveReply_moves s)) s
  | scanStart => exact execScanStart_completes s
  | scanComplete readings requestFirst => exact execScanComplete_completes readings requestFirst s
  | armDelayExpiry position => exact execArmDelayExpiry_completes position s
  | layerTick => exact execLayerTick_completes s
  | cPortRequestEnd => exact execCPortRequestEnd_completes s

end Sys2Proof.Machine
end

section
/-! SUPPORT. A law that every move and every claim keeps is kept by every step; and O5, that every command completes. -/

namespace Sys2Proof.Machine

open Sys2Proof

/-! ### Laws and steps -/

/-- A law that every way of changing the state keeps. -/
structure Law (P : State → Prop) : Prop where
  /-- It looks only at the core. -/
  seen : ∀ s, P s ↔ P (core s)
  move : ∀ {s t}, Move s t → P s → P t
  claim : ∀ {s t}, Claim s t → P s → P t
  lost : ∀ s, P s → P (losePower s)
  applied : ∀ s, P s →
    P (State.fresh .loading (storeAfterLoss s).tables (storeAfterLoss s) (storeAfterLoss s).loadedState s.hpc.powerGood
      s.choice s.pending)

/-- A law keeps to the core. -/
theorem of_same_core {P : State → Prop} (seen : ∀ s, P s ↔ P (core s)) {s t : State} (same : core t = core s) (h : P s) :
    P t := by
  rw [seen t, same, ← seen s]
  exact h

variable {P : State → Prop} {s t : State}

theorem Law.of_same_core (law : Law P) (same : core t = core s) (h : P s) : P t := Machine.of_same_core law.seen same h

theorem Law.moves (law : Law P) (chain : Moves s t) (h : P s) : P t := by
  induction chain with
  | refl => exact h
  | tail _ m ih => exact law.move m ih

theorem Law.run (law : Law P) (run : Run s t) (h : P s) : P t := by
  cases run with
  | moves chain => exact law.moves chain h
  | claims before claim after => exact law.moves after (law.claim claim (law.moves before h))

theorem imageCheck_moves (s : State) : Moves s (imageCheck s) := by
  unfold imageCheck
  split
  · exact recordError_moves ..
  · exact .refl
  · exact .refl

theorem Law.exec (law : Law P) {c : Instr} (done : Machine.exec c s = .next t) (h : P s) : P t := by
  cases supply : changesSupply c with
  | false =>
    obtain ⟨u, next, run⟩ := exec_completes supply s
    obtain rfl := Host.Outcome.next.inj (done.symm.trans next)
    exact law.run run h
  | true =>
    cases c with
    | powerOn =>
      obtain rfl := Host.Outcome.next.inj done
      exact law.moves (imageCheck_moves _) (law.applied s h)
    | powerLoss =>
      obtain rfl := Host.Outcome.next.inj done
      exact law.lost s h
    | _ => exact absurd supply Bool.false_ne_true

theorem Law.idle (law : Law P) (h : P s) : P (idle s) := by
  unfold Machine.idle
  split
  · exact h
  · unfold idleSupplied
    split
    · next reports =>
      simp only [relayReportsEmpty, Bool.and_eq_true, decide_eq_true_eq] at reports
      exact law.moves (beginRailOff_moves reports.1.1) h
    · split
      · exact law.of_same_core (s := s) rfl h
      · exact law.of_same_core (s := s) rfl h

/-- Every step keeps a law that every way of changing the state keeps. -/
theorem Law.step (law : Law P) (done : Machine.step s = .next t) (h : P s) : P t := by
  unfold Machine.step at done
  split at done
  · next rest _ =>
    have waiting : P { s with pending := rest } := law.of_same_core (s := s) rfl h
    exact law.exec done waiting
  · obtain rfl := Host.Outcome.next.inj done
    exact law.idle h

/-! ### Every command completes (O5) -/

/-- The queue of waiting commands and the choice stay, and time does not go back. -/
def KeepsTime (s t : State) : Prop := t.pending = s.pending ∧ t.choice = s.choice ∧ s.now ≤ t.now

theorem keepsTime_of_eq {s t : State} (queue : t.pending = s.pending) (order : t.choice = s.choice) (now : t.now = s.now) :
    KeepsTime s t := ⟨queue, order, now.ge⟩

theorem KeepsTime.trans {s u t : State} (h : KeepsTime s u) (k : KeepsTime u t) : KeepsTime s t :=
  ⟨k.1.trans h.1, k.2.1.trans h.2.1, h.2.2.trans k.2.2⟩

theorem moveHost_keepsTime (new : HostState) (s : State) : KeepsTime s (moveHost new s) := by
  cases h : new.restartEvent with
  | false => rw [moveHost_plain h]; exact keepsTime_of_eq rfl rfl rfl
  | true => rw [moveHost_restartEvent h]; exact keepsTime_of_eq rfl rfl rfl

theorem changeLevel_keepsTime (f : Nat → Nat) (a : LevelAction) (s : State) : KeepsTime s (changeLevel f a s) := by
  cases a with
  | none | cutZone _ | forceOn _ | forceOff _ => exact keepsTime_of_eq rfl rfl rfl

theorem releaseSlot_keepsTime (i : Slot) (s : State) : KeepsTime s (releaseSlot i s) := by
  unfold releaseSlot
  split
  · split
    · exact changeLevel_keepsTime ..
    · exact keepsTime_of_eq rfl rfl rfl
  · exact keepsTime_of_eq rfl rfl rfl

theorem applyLoadBudget_keepsTime (b : BudgetRecord) (s : State) : KeepsTime s (applyLoadBudget b s).1 := by
  simp only [applyLoadBudget]
  split
  · exact keepsTime_of_eq rfl rfl rfl
  · exact keepsTime_of_eq rfl rfl rfl

theorem Move.keepsTime (h : Move s t) : KeepsTime s t := by
  cases h with
  | quiet same later queue order => exact ⟨queue, order, later⟩
  | count | latch | forget | ignore | select | resetRecords | notice | noticeSent | replySent | flush | answered | abandoned
  | drained | link | stored | storedReply | sequence | ladder | zone | channel | poll | window | keypad | keymapEntry
  | keymapTimeout | period | drive | stack | keys | supplied | railOn | railsGoOff | railReleased | settleStopped | requested
  | attempted | steady | unlisted | listed | logged => exact keepsTime_of_eq rfl rfl rfl
  | transmit => exact keepsTime_of_eq (startTransmit_pending s) (startTransmit_choice s) (startTransmit_now s)
  | budget => exact applyLoadBudget_keepsTime ..
  | trip => exact changeLevel_keepsTime ..
  | untrip => exact changeLevel_keepsTime ..
  | refill => exact releaseSlot_keepsTime ..
  | resetRule => exact releaseSlot_keepsTime ..
  | host | settled | boot | restart | off | drain | standby => exact moveHost_keepsTime _ _

theorem Moves.keepsTime (h : Moves s t) : KeepsTime s t := by
  induction h with
  | refl => exact keepsTime_of_eq rfl rfl rfl
  | tail _ m ih => exact ih.trans m.keepsTime

theorem Claim.keepsTime (h : Claim s t) : KeepsTime s t := by
  cases h with
  | reply | store | join => exact keepsTime_of_eq rfl rfl rfl

theorem Run.keepsTime (h : Run s t) : KeepsTime s t := by
  cases h with
  | moves chain => exact Moves.keepsTime chain
  | claims before claim after =>
    exact (Moves.keepsTime before).trans (claim.keepsTime.trans (Moves.keepsTime after))

/-- Every command but those that change the supply takes the relay's report first (R18; log 33). -/
theorem exec_eq_upon {c : Instr} (h : changesSupply c = false) : ∃ event, ∀ s, exec c s = upon s event := by
  cases c with
  | powerOn | powerLoss => exact absurd h.symm Bool.false_ne_true
  | _ =>
    simp only [exec]
    exact ⟨_, fun _ => rfl⟩

/-- A command taken with a report standing acts as where rail-off has begun (R18; log 33). -/
theorem exec_beginRailOff (c : Instr) {s : State} (h : ¬ Calm s) : exec c s = exec c (beginRailOff s) := by
  have reports : relayReportsEmpty s = true := by
    rw [calm_iff, Bool.not_eq_false] at h
    exact h
  cases supply : changesSupply c with
  | false =>
    obtain ⟨event, he⟩ := exec_eq_upon supply
    rw [he, he, upon_report reports, upon, reportRelayEmpty_of_not (relayReportsEmpty_beginRailOff s)]
  | true =>
    cases c with
    | powerOn | powerLoss => rfl
    | _ => exact absurd supply Bool.false_ne_true

theorem imageCheck_keepsTime (s : State) : KeepsTime s (imageCheck s) := Moves.keepsTime (imageCheck_moves s)

/-- Settles O5: a command other than power-on and power loss is a run, and no move of a run touches the queue or turns time
back. -/
theorem everyCommandCompletes : Obligations.EveryCommandCompletes := by
  unfold Obligations.EveryCommandCompletes
  intro c s
  have reported (h : ¬ Calm s) := exec_beginRailOff c h
  cases supply : changesSupply c with
  | false =>
    obtain ⟨t, done, run⟩ := exec_completes supply s
    obtain ⟨queue, order, later⟩ := run.keepsTime
    exact ⟨t, done, queue, order, fun _ _ => later, reported⟩
  | true =>
    cases c with
    | powerOn =>
      obtain ⟨queue, order, -⟩ := imageCheck_keepsTime
        (State.fresh .loading (storeAfterLoss s).tables (storeAfterLoss s) (storeAfterLoss s).loadedState s.hpc.powerGood
          s.choice s.pending)
      exact ⟨applyPower s, rfl, queue, order, fun h => absurd rfl h, reported⟩
    | powerLoss => exact ⟨losePower s, rfl, rfl, rfl, fun _ h => absurd rfl h, reported⟩
    | _ => exact absurd supply Bool.false_ne_true

end Sys2Proof.Machine
end

section
/-! SUPPORT. What the larger moves leave as it was; and O18, the laws of the Error and Counter Unit. -/

namespace Sys2Proof.Machine

open Sys2Proof

/-! ### What a move leaves as it was -/

/-- A level action touches the zones and the force counts alone. -/
theorem changeLevel_eq (f : Nat → Nat) (a : LevelAction) (s : State) :
    changeLevel f a s =
      { s with
        heat.zones := (changeLevel f a s).heat.zones
        outs.forceOn := (changeLevel f a s).outs.forceOn, outs.forceOff := (changeLevel f a s).outs.forceOff } := by
  cases a with
  | none | cutZone _ | forceOn _ | forceOff _ => rfl

theorem releaseSlot_eq (i : Slot) (s : State) :
    releaseSlot i s =
      { s with
        heat.zones := (releaseSlot i s).heat.zones
        outs.forceOn := (releaseSlot i s).outs.forceOn, outs.forceOff := (releaseSlot i s).outs.forceOff } := by
  unfold releaseSlot
  split
  · split
    · exact changeLevel_eq ..
    · rfl
  · rfl

theorem applyLoadBudget_eq (b : BudgetRecord) (s : State) :
    (applyLoadBudget b s).1 =
      { s with
        heat.budget := b, heat.zones := (applyLoadBudget b s).1.heat.zones
        heat.limited := (applyLoadBudget b s).1.heat.limited } := by
  simp only [applyLoadBudget]
  split
  · rfl
  · rfl

/-- A change of host state touches the Host Power Controller, the allocator, the keymap, the relay, the Frame Engine, a
store's claim and the host word alone. -/
theorem moveHost_eq (new : HostState) (s : State) :
    moveHost new s =
      { s with
        hpc := (moveHost new s).hpc, heat := (moveHost new s).heat, keymap := (moveHost new s).keymap
        relay := (moveHost new s).relay, panel := (moveHost new s).panel, imageState := (moveHost new s).imageState
        outs := (moveHost new s).outs } := by
  cases h : new.restartEvent with
  | false => rw [moveHost_plain h]
  | true => rw [moveHost_restartEvent h]; rfl

/-! ### The Error and Counter Unit (O18) -/

/-- The laws of the error record and of the counters. -/
def RecordsLaw (s : State) : Prop := ErrorLaw s ∧ CounterLaw s

theorem RecordsLaw.of_eq {s t : State} (h : RecordsLaw s) (errs : t.errs = s.errs) (counters : t.counters = s.counters) :
    RecordsLaw t := by
  obtain ⟨⟨detail, multiple⟩, counts⟩ := h
  exact ⟨⟨fun d hd => errs ▸ detail d (errs ▸ hd), fun hm => errs ▸ multiple (errs ▸ hm)⟩, fun k => counters ▸ counts k⟩

theorem Counter.tick_lt {c : Counter} (h : c.count < 4294967296) (e : CounterEvent) : (c.tick e).count < 4294967296 := by
  unfold Counter.tick
  split
  · exact Nat.mod_lt _ (by decide)
  · exact h

theorem countEvent_count (e : CounterEvent) (s : State) (k : Fin 2) :
    (countEvent e s).counters[k] = s.counters[k].tick e := by
  match k with
  | 0 => rfl
  | 1 => rfl

/-- The law of an error record: a frozen detail's class flag is set, and MULTIPLE stands beside a detail alone. -/
def Errors.Lawful (e : Errors) : Prop :=
  (∀ d, e.detail = some d → e.flags.getLsbD d.cls.bit.val = true) ∧ (e.multiple = true → e.detail.isSome = true)

theorem errorLaw_iff (s : State) : ErrorLaw s ↔ s.errs.Lawful := Iff.rfl

theorem Errors.Lawful.latch {e : Errors} (h : e.Lawful) (c : ErrorClass) (time : Nat) (f : ErrorFields) :
    (e.latch c time f).Lawful := by
  obtain ⟨detail, multiple⟩ := h
  cases ignored : e.ignores c with
  | true =>
    rw [Errors.latch_ignored _ _ ignored]
    exact ⟨detail, multiple⟩
  | false =>
    by_cases absent : e.detail = none
    · rw [Errors.latch_first _ _ ignored absent]
      refine ⟨fun d hd => ?_, fun _ => rfl⟩
      obtain rfl := Option.some.inj hd
      rw [BitVec.getLsbD_or, oneBit_getLsbD, decide_eq_true rfl, Bool.or_true]
    · rw [Errors.latch_again _ _ ignored absent]
      refine ⟨fun d hd => ?_, fun _ => Option.isSome_iff_ne_none.2 absent⟩
      rw [BitVec.getLsbD_or, detail d hd, Bool.true_or]

theorem Errors.Lawful.clear {e : Errors} (h : e.Lawful) (mask : Word) : (e.clear mask).Lawful := by
  obtain ⟨detail, multiple⟩ := h
  rw [Errors.clear_eq]
  cases removed : e.detailIn mask with
  | true =>
    refine ⟨fun d hd => absurd hd.symm (Option.some_ne_none d), fun hm => ?_⟩
    exact absurd (Bool.and_eq_true_iff.1 hm).2 Bool.false_ne_true
  | false =>
    refine ⟨fun d hd => ?_, fun hm => multiple (Bool.and_eq_true_iff.1 hm).1⟩
    have kept : mask.getLsbD d.cls.bit.val = false := by
      simp only [Bool.false_eq_true, if_false] at hd
      simpa only [Errors.detailIn, hd, Option.any_some] using removed
    simp only [BitVec.getLsbD_and, BitVec.getLsbD_not, detail d hd, kept, Fin.is_lt, decide_true, Bool.not_false, Bool.and_self]

theorem initial_count_lt : ∀ k : Fin 2, Counter.initial[k].count < 4294967296 := by decide

theorem recordsLaw_fresh (power : Power) (tables : Image) (store : Store) (loaded : ImageState) (pins : Vector Bool 3)
    (choice : Nat) (pending : List Instr) : RecordsLaw (State.fresh power tables store loaded pins choice pending) := by
  refine ⟨⟨fun d hd => absurd hd.symm (Option.some_ne_none d), fun hm => absurd hm Bool.false_ne_true⟩, fun k => ?_⟩
  exact initial_count_lt k

theorem recordsLaw_move {s t : State} (m : Move s t) (h : RecordsLaw s) : RecordsLaw t := by
  obtain ⟨errors, counts⟩ := h
  cases m with
  | quiet same => exact of_same_core (P := RecordsLaw) (fun _ => Iff.rfl) same ⟨errors, counts⟩
  | count e =>
    exact ⟨errors, fun k => (countEvent_count e s k).symm ▸ Counter.tick_lt (counts k) e⟩
  | latch c f => exact ⟨((errorLaw_iff s).1 errors).latch c _ f, counts⟩
  | forget mask => exact ⟨((errorLaw_iff s).1 errors).clear mask, counts⟩
  | ignore => exact ⟨errors, counts⟩
  | select k e =>
    refine ⟨errors, fun j => ?_⟩
    by_cases hj : j = k
    · subst hj
      simp only [vset_self]
      decide
    · simp only [vset_other _ _ hj]
      exact counts j
  | resetRecords =>
    refine ⟨⟨fun d hd => absurd hd.symm (Option.some_ne_none d), fun hm => absurd hm Bool.false_ne_true⟩, fun k => ?_⟩
    exact initial_count_lt k
  | transmit => exact RecordsLaw.of_eq ⟨errors, counts⟩ (startTransmit_errs s) (startTransmit_counters s)
  | budget b => rw [applyLoadBudget_eq]; exact ⟨errors, counts⟩
  | trip => rw [applyLevel, changeLevel_eq]; exact ⟨errors, counts⟩
  | untrip => rw [releaseLevel, changeLevel_eq]; exact ⟨errors, counts⟩
  | refill => rw [refillSlot, releaseSlot_eq]; exact ⟨errors, counts⟩
  | resetRule => rw [releaseSlot_eq]; exact ⟨errors, counts⟩
  | host | settled | boot | restart | off | drain | standby => rw [moveHost_eq]; exact ⟨errors, counts⟩
  | notice | noticeSent | replySent | flush | answered | abandoned
  | drained | link | stored | storedReply | sequence | ladder | zone | channel | poll | window | keypad | keymapEntry
  | keymapTimeout | period | drive | stack | keys | supplied | railOn | railsGoOff | railReleased | settleStopped | requested
  | attempted | steady | unlisted | listed | logged => exact ⟨errors, counts⟩

theorem recordsLaw_law : Law RecordsLaw where
  seen _ := Iff.rfl
  move := recordsLaw_move
  claim c h := by
    cases c with
    | reply | store | join => exact h
  lost _ _ := recordsLaw_fresh ..
  applied _ _ := recordsLaw_fresh ..

/-- Settles O18: the error record changes by recordings and clears alone, the counts by events and selects. -/
theorem stepKeepsTheErrorLaw : Obligations.StepKeepsTheErrorLaw := by
  unfold Obligations.StepKeepsTheErrorLaw
  intro s t errors counts done
  exact recordsLaw_law.step done ⟨errors, counts⟩

end Sys2Proof.Machine
end

section
/-! SUPPORT. The grant computations, zone by zone (R29 to R38). -/

namespace Sys2Proof.Machine

open Sys2Proof

/-! ### The two computations as changes of the zones -/

/-- The allocation at a control period start (R34, R35). -/
def periodAllocation (s : State) : (Zone → Nat) × Bool :=
  allocate (budgetInForce s) (visitOrder s.heat.records) (fun z => allocationRequest (stageOneToThree s z))
    fun z => s.heat.records[z].current

/-- A zone after a control period start (R29). -/
def periodZone (s : State) (z : Zone) : ZoneState :=
  let rested := stageRest s.heat.records[z] ((periodAllocation s).1 z) (stageOneToThree s z)
  { rested with output := inWindow z rested.grant (periodTime s) }

theorem periodComputation_eq (s : State) :
    periodComputation s =
      let t := { s with heat := { s.heat with zones := quad (periodZone s), limited := (periodAllocation s).2 } }
      if (periodAllocation s).2 then countEvent .limitedPeriods t else t := by
  simp only [periodComputation, quad_get]
  rfl

theorem periodComputation_heat (s : State) :
    (periodComputation s).heat = { s.heat with zones := quad (periodZone s), limited := (periodAllocation s).2 } := by
  rw [periodComputation_eq]
  simp only
  split
  · rfl
  · rfl

/-- A zone with its cut flag set, where it has a cut demand (R38). -/
def cutZone (s : State) (z : Zone) : ZoneState :=
  { s.heat.zones[z] with cut := s.heat.zones[z].cut || decide (0 < s.heat.zones[z].cutDemand) }

/-- The allocation of an immediate recomputation (R38). -/
def immediateAllocation (s : State) : (Zone → Nat) × Bool :=
  allocate (budgetInForce s) (visitOrder s.heat.records) (fun z => allocationRequest (cutZone s z))
    fun z => s.heat.records[z].current

/-- A zone after an immediate recomputation (R38). -/
def immediateZone (s : State) (z : Zone) : ZoneState :=
  let g := min ((immediateAllocation s).1 z) s.heat.zones[z].grant
  { cutZone s z with grant := g, output := shortened s z g s.heat.zones[z].output }

theorem immediateRecompute_heat (s : State) :
    (immediateRecompute s).heat = { s.heat with zones := quad (immediateZone s), limited := (immediateAllocation s).2 } := by
  simp only [immediateRecompute, quad_get]
  rfl

/-! ### What the stages leave alone -/

theorem stageRequest_cutDemand (r : ZoneRecord) (w : Int) (reading : ReadingState × Option Int) (z : ZoneState) :
    (stageRequest r w reading z).cutDemand = z.cutDemand := by
  unfold stageRequest
  split
  · rfl
  · split
    · split
      · rfl
      · rfl
    · rfl
  · rfl

theorem stageOneToThree_cutDemand (s : State) (z : Zone) :
    (stageOneToThree s z).cutDemand = s.heat.zones[z].cutDemand := by
  simp only [stageOneToThree]
  split
  · rw [stageRequest_cutDemand]
  · rfl

theorem stageRest_eq (r : ZoneRecord) (grant : Nat) (z : ZoneState) :
    stageRest r grant z = { z with
      grant := (stageRest r grant z).grant, restCount := (stageRest r grant z).restCount
      onStreak := (stageRest r grant z).onStreak } := by
  unfold stageRest restCase
  split
  · rfl
  · split
    · split
      · rfl
      · rfl
    · rfl

theorem periodZone_cutDemand (s : State) (z : Zone) : (periodZone s z).cutDemand = s.heat.zones[z].cutDemand := by
  rw [periodZone, stageRest_eq]
  exact stageOneToThree_cutDemand s z

theorem periodComputation_cutDemand (s : State) (z : Zone) :
    (periodComputation s).heat.zones[z].cutDemand = s.heat.zones[z].cutDemand := by
  rw [periodComputation_heat]
  simp only [quad_get]
  exact periodZone_cutDemand s z

theorem immediateRecompute_cutDemand (s : State) (z : Zone) :
    (immediateRecompute s).heat.zones[z].cutDemand = s.heat.zones[z].cutDemand := by
  rw [immediateRecompute_heat]
  simp only [quad_get]
  rfl

theorem applyLoadBudget_cutDemand (b : BudgetRecord) (s : State) (z : Zone) :
    (applyLoadBudget b s).1.heat.zones[z].cutDemand = s.heat.zones[z].cutDemand := by
  simp only [applyLoadBudget]
  split
  · exact immediateRecompute_cutDemand _ z
  · rfl

theorem budgeted_cutDemand (new : HostState) (s : State) (z : Zone) :
    (budgeted new s).zones[z].cutDemand = s.heat.zones[z].cutDemand := by
  unfold budgeted
  split
  · exact immediateRecompute_cutDemand _ z
  · rfl

theorem moveHost_heat (new : HostState) (s : State) : (moveHost new s).heat = budgeted new s := by
  cases h : new.restartEvent with
  | false => rw [moveHost_plain h]
  | true => rw [moveHost_restartEvent h]

theorem moveHost_outs (new : HostState) (s : State) :
    (moveHost new s).outs = if new.keepWarm then { s.outs with hostWord := 0 } else s.outs := by
  cases h : new.restartEvent with
  | false =>
    rw [moveHost_plain h, HostState.not_keepWarm_of_not_restartEvent h]
    rfl
  | true => rw [moveHost_restartEvent h]

end Sys2Proof.Machine
end

section
/-! SUPPORT. O16: each cut and force count is the number of tripped rules behind it (R82). -/

namespace Sys2Proof.Machine

open Sys2Proof

/-! ### The counts behind a level action -/

/-- The count that a level action names; NONE names none. -/
def levelCount (s : State) : LevelAction → Nat
  | .none => 0
  | .cutZone z => s.heat.zones[z].cutDemand
  | .forceOn o => s.outs.forceOn[o]
  | .forceOff o => s.outs.forceOff[o]

/-- The slots tripped with a level action are counted where it acts, and only a sample rule is tripped. -/
structure RuleCounts (s : State) : Prop where
  count : ∀ p, p ≠ .none → levelCount s p = allSlots.countP (trippedWith s p)
  sample : ∀ i : Slot, s.acts.rules[i].tripped = true → ∃ r, s.acts.entries[i] = some (.sample r)

theorem countLaw_iff (s : State) : CountLaw s ↔ RuleCounts s := by
  have counted (p : LevelAction) : (trippedSlots s p).length = allSlots.countP (trippedWith s p) := by
    rw [trippedSlots_eq_filter, List.countP_eq_length_filter]
  constructor
  · rintro ⟨cuts, on, off, sample⟩
    refine ⟨fun p hp => ?_, sample⟩
    cases p with
    | none => exact absurd rfl hp
    | cutZone z => exact (cuts z).trans (counted _)
    | forceOn o => exact (on o).trans (counted _)
    | forceOff o => exact (off o).trans (counted _)
  · rintro ⟨count, sample⟩
    exact ⟨fun z => (count (.cutZone z) LevelAction.noConfusion).trans (counted _).symm,
      fun o => (count (.forceOn o) LevelAction.noConfusion).trans (counted _).symm,
      fun o => (count (.forceOff o) LevelAction.noConfusion).trans (counted _).symm, sample⟩

theorem levelCount_lowerCounts (f : LevelAction → Nat) (s : State) (p : LevelAction) :
    levelCount (lowerCounts f s) p = levelCount s p - f p := by
  cases p with
  | none => exact (Nat.zero_sub _).symm
  | cutZone z => simp only [levelCount, lowerCounts, Fin.getElem_fin, Vector.getElem_ofFn, Fin.eta]
  | forceOn o => simp only [levelCount, lowerCounts, Fin.getElem_fin, Vector.getElem_ofFn, Fin.eta]
  | forceOff o => simp only [levelCount, lowerCounts, Fin.getElem_fin, Vector.getElem_ofFn, Fin.eta]

/-- An entry of a table after a write. -/
theorem vset_get {α : Type} {n : Nat} (v : Vector α n) (i j : Fin n) (x : α) :
    (vset v i x)[j] = if i = j then x else v[j] := by
  split
  · next h => rw [← h, vset_self]
  · next h => exact vset_other _ _ (Ne.symm h)

theorem levelCount_applyLevel (a : LevelAction) (s : State) {p : LevelAction} (hp : p ≠ .none) :
    levelCount (applyLevel a s) p = levelCount s p + if a = p then 1 else 0 := by
  cases p with
  | none => exact absurd rfl hp
  | cutZone z =>
    cases a with
    | cutZone y =>
      simp only [applyLevel, changeLevel, levelCount, vset_get, LevelAction.cutZone.injEq]
      split
      · next h => rw [h]
      · rfl
    | none | forceOn _ | forceOff _ => rfl
  | forceOn o =>
    cases a with
    | forceOn y =>
      simp only [applyLevel, changeLevel, levelCount, vset_get, LevelAction.forceOn.injEq]
      split
      · next h => rw [h]
      · rfl
    | none | cutZone _ | forceOff _ => rfl
  | forceOff o =>
    cases a with
    | forceOff y =>
      simp only [applyLevel, changeLevel, levelCount, vset_get, LevelAction.forceOff.injEq]
      split
      · next h => rw [h]
      · rfl
    | none | cutZone _ | forceOn _ => rfl

/-! ### One slot changes -/

/-- Two predicates that agree off one member of a list without repeats count it with that one exchanged. -/
theorem countP_exchange {α : Type} {l : List α} {i : α} {q q' : α → Bool} (nodup : l.Nodup) (mem : i ∈ l)
    (others : ∀ j, j ≠ i → q' j = q j) : l.countP q' + (q i).toNat = l.countP q + (q' i).toNat := by
  obtain ⟨l₁, l₂, rfl⟩ := List.append_of_mem mem
  have apart := (List.nodup_middle.1 nodup).notMem
  have left : l₁.countP q' = l₁.countP q :=
    List.countP_congr fun j hj => by rw [others j fun e => apart (e ▸ List.mem_append_left _ hj)]
  have right : l₂.countP q' = l₂.countP q :=
    List.countP_congr fun j hj => by rw [others j fun e => apart (e ▸ List.mem_append_right _ hj)]
  simp only [List.countP_append, List.countP_cons, left, right]
  cases q i <;> cases q' i <;> simp <;> omega

theorem mem_allSlots (i : Slot) : i ∈ allSlots := List.mem_finRange i

/-- A change of one slot keeps the counts when each count changes as the slot does. -/
theorem RuleCounts.exchange {s t : State} (h : RuleCounts s) {i : Slot}
    (others : ∀ p j, j ≠ i → trippedWith t p j = trippedWith s p j)
    (moved : ∀ p, p ≠ .none → levelCount t p + (trippedWith s p i).toNat = levelCount s p + (trippedWith t p i).toNat)
    (sample : ∀ j : Slot, t.acts.rules[j].tripped = true → ∃ r, t.acts.entries[j] = some (.sample r)) : RuleCounts t := by
  refine ⟨fun p hp => ?_, sample⟩
  have exchanged := countP_exchange (List.nodup_finRange 32) (mem_allSlots i) (others p)
  have counted := h.count p hp
  have change := moved p hp
  simp only [allSlots] at counted ⊢
  omega

/-- A tripped slot is among those counted. -/
theorem RuleCounts.le {s : State} (h : RuleCounts s) {p : LevelAction} (hp : p ≠ .none) (i : Slot) :
    (trippedWith s p i).toNat ≤ levelCount s p := by
  rw [h.count p hp]
  cases tripped : trippedWith s p i with
  | false => exact Nat.zero_le _
  | true => exact List.countP_pos_iff.2 ⟨i, mem_allSlots i, tripped⟩

/-! ### The moves of the Action Table Unit -/

theorem trippedWith_setRule_other {i j : Slot} (h : j ≠ i) (x : RuleState) (s : State) (p : LevelAction) :
    trippedWith (setRule i x s) p j = trippedWith s p j := by
  simp only [trippedWith, setRule, vset_other _ _ h]

theorem trippedWith_of_acts {s t : State} (h : t.acts = s.acts) (p : LevelAction) (i : Slot) :
    trippedWith t p i = trippedWith s p i := by
  simp only [trippedWith, h]

theorem changeLevel_acts (f : Nat → Nat) (a : LevelAction) (s : State) : (changeLevel f a s).acts = s.acts := by
  rw [changeLevel_eq]

theorem RuleCounts.trip {s : State} (h : RuleCounts s) {i : Slot} {r : SampleRule}
    (entry : s.acts.entries[i] = some (.sample r)) (untripped : s.acts.rules[i].tripped = false) (n : Nat) :
    RuleCounts (applyLevel r.level (setRule i { tripped := true, trips := n } s)) := by
  have acts : (applyLevel r.level (setRule i { tripped := true, trips := n } s)).acts = _ := changeLevel_acts ..
  refine h.exchange (i := i) (fun p j hj => ?_) (fun p hp => ?_) (fun j hj => ?_)
  · rw [trippedWith_of_acts acts, trippedWith_setRule_other hj]
  · have tripped : trippedWith (setRule i { tripped := true, trips := n } s) p i = decide (r.level = p) := by
      simp only [trippedWith, setRule, entry, vset_self, Bool.true_and]
    have idle : trippedWith s p i = false := by simp only [trippedWith, entry, untripped, Bool.false_and]
    rw [trippedWith_of_acts acts, tripped, idle, levelCount_applyLevel _ _ hp]
    by_cases e : r.level = p <;> simp [e, levelCount, setRule]
  · rw [acts] at hj ⊢
    by_cases e : j = i
    · exact ⟨r, e ▸ entry⟩
    · simp only [setRule, vset_other _ _ e] at hj
      exact h.sample j hj

theorem trippedWith_of_untripped {s : State} {i : Slot} (h : s.acts.rules[i].tripped = false) (p : LevelAction) :
    trippedWith s p i = false := by
  unfold trippedWith
  split
  · rw [h, Bool.false_and]
  · rfl

/-- A slot's rule is cleared, the count of its level action lowered if it was tripped. -/
theorem RuleCounts.clearedAt {s t : State} (h : RuleCounts s) {i : Slot} (cleared : t.acts.rules[i].tripped = false)
    (rules : ∀ j, j ≠ i → t.acts.rules[j] = s.acts.rules[j]) (entries : ∀ j, j ≠ i → t.acts.entries[j] = s.acts.entries[j])
    (lowered : ∀ p, levelCount t p = levelCount s p - (trippedWith s p i).toNat) : RuleCounts t := by
  refine h.exchange (i := i) (fun p j hj => ?_) (fun p hp => ?_) (fun j hj => ?_)
  · simp only [trippedWith, rules j hj, entries j hj]
  · have counted := h.le hp i
    rw [trippedWith_of_untripped cleared, lowered]
    simp only [Bool.toNat_false]
    omega
  · by_cases e : j = i
    · rw [e, cleared] at hj
      exact absurd hj Bool.false_ne_true
    · rw [rules j e] at hj
      rw [entries j e]
      exact h.sample j hj

theorem RuleCounts.untrip {s : State} (h : RuleCounts s) {i : Slot} {r : SampleRule}
    (entry : s.acts.entries[i] = some (.sample r)) (tripped : s.acts.rules[i].tripped = true) (n : Nat) :
    RuleCounts (releaseLevel r.level (setRule i { tripped := false, trips := n } s)) := by
  rw [releaseLevel_eq_lowerCounts]
  refine h.clearedAt (i := i) (by simp only [lowerCounts, setRule, vset_self])
    (fun j hj => vset_other _ _ hj) (fun _ _ => rfl) fun p => ?_
  have named : (trippedWith s p i).toNat = if r.level = p then 1 else 0 := by
    simp only [trippedWith, entry, tripped, Bool.true_and]
    by_cases e : r.level = p <;> simp [e]
  rw [levelCount_lowerCounts, named]
  rfl

theorem toNat_eq_ite (b : Bool) : b.toNat = if b then 1 else 0 := by cases b <;> rfl

theorem levelCount_releaseSlot (i : Slot) (s : State) (p : LevelAction) :
    levelCount (releaseSlot i s) p = levelCount s p - (trippedWith s p i).toNat := by
  rw [releaseSlot_eq_lowerCounts, levelCount_lowerCounts, toNat_eq_ite]

theorem releaseSlot_acts (i : Slot) (s : State) : (releaseSlot i s).acts = s.acts := by
  rw [releaseSlot_eq]

theorem RuleCounts.refill {s : State} (h : RuleCounts s) (i : Slot) (e : Option ActionEntry) :
    RuleCounts (refillSlot i e s) := by
  refine h.clearedAt (i := i) (by simp only [refillSlot, setRule, vset_self]; rfl) (fun j hj => ?_) (fun j hj => ?_)
    fun p => levelCount_releaseSlot i s p
  · simp only [refillSlot, setRule, vset_other _ _ hj, releaseSlot_acts]
  · simp only [refillSlot, setRule, vset_other _ _ hj, releaseSlot_acts]

theorem RuleCounts.reset {s : State} (h : RuleCounts s) (i : Slot) :
    RuleCounts (setRule i RuleState.clear (releaseSlot i s)) := by
  refine h.clearedAt (i := i) (by simp only [setRule, vset_self]; rfl) (fun j hj => ?_) (fun j hj => ?_)
    fun p => levelCount_releaseSlot i s p
  · simp only [setRule, vset_other _ _ hj, releaseSlot_acts]
  · simp only [setRule, releaseSlot_acts]

/-! ### The law -/

/-- A change that leaves the action table and every count. -/
theorem RuleCounts.of_eq {s t : State} (h : RuleCounts s) (acts : t.acts = s.acts)
    (cuts : ∀ z : Zone, t.heat.zones[z].cutDemand = s.heat.zones[z].cutDemand) (on : t.outs.forceOn = s.outs.forceOn)
    (off : t.outs.forceOff = s.outs.forceOff) : RuleCounts t := by
  have counts (p : LevelAction) : levelCount t p = levelCount s p := by
    cases p with
    | none => rfl
    | cutZone z => exact cuts z
    | forceOn o => simp only [levelCount, on]
    | forceOff o => simp only [levelCount, off]
  refine ⟨fun p hp => ?_, fun i hi => ?_⟩
  · have same : trippedWith t p = trippedWith s p := funext fun i => trippedWith_of_acts acts p i
    rw [counts, h.count p hp, same]
  · rw [acts] at hi ⊢
    exact h.sample i hi

theorem RuleCounts.moveHost {s : State} (h : RuleCounts s) (new : HostState) : RuleCounts (moveHost new s) := by
  have warm : (Machine.moveHost new s).outs.forceOn = s.outs.forceOn
      ∧ (Machine.moveHost new s).outs.forceOff = s.outs.forceOff := by
    rw [moveHost_outs]
    split
    · exact ⟨rfl, rfl⟩
    · exact ⟨rfl, rfl⟩
  refine h.of_eq (by rw [moveHost_eq]) (fun z => ?_) warm.1 warm.2
  rw [moveHost_heat, budgeted_cutDemand]

theorem reloadedZone_cutDemand (old new : ZoneRecord) (z : ZoneState) : (reloadedZone old new z).cutDemand = z.cutDemand := by
  unfold reloadedZone
  simp only
  split
  · rfl
  · rfl

theorem vset_cutDemand (v : Vector ZoneState 4) {z : Zone} {x : ZoneState} (h : x.cutDemand = v[z].cutDemand) (y : Zone) :
    (vset v z x)[y].cutDemand = v[y].cutDemand := by
  rw [vset_get]
  split
  · next e => rw [h, e]
  · rfl

theorem ruleCounts_fresh (power : Power) (image : Image) (store : Store) (loaded : ImageState) (pins : Vector Bool 3)
    (choice : Nat) (pending : List Instr) : RuleCounts (State.fresh power image store loaded pins choice pending) := by
  have clear (i : Slot) :
      (State.fresh power image store loaded pins choice pending).acts.rules[i].tripped = false := by
    simp only [State.fresh, Acts.initial, Fin.getElem_fin, Vector.getElem_replicate]
    rfl
  refine ⟨fun p hp => ?_, fun i hi => absurd ((clear i).symm.trans hi) Bool.false_ne_true⟩
  have none (i : Slot) := trippedWith_of_untripped (clear i) p
  rw [List.countP_eq_zero.2 fun i _ => by rw [none i]; exact Bool.false_ne_true]
  cases p with
  | none => rfl
  | cutZone z => simp only [levelCount, State.fresh, Heat.initial, quad_get]; rfl
  | forceOn o => simp only [levelCount, State.fresh, Outputs.initial, Fin.getElem_fin, Vector.getElem_replicate]
  | forceOff o => simp only [levelCount, State.fresh, Outputs.initial, Fin.getElem_fin, Vector.getElem_replicate]

theorem ruleCounts_move {s t : State} (m : Move s t) (h : RuleCounts s) : RuleCounts t := by
  cases m with
  | quiet same =>
    exact (countLaw_iff t).1 (of_same_core (P := CountLaw) (fun _ => Iff.rfl) same ((countLaw_iff s).2 h))
  | transmit =>
    rw [startTransmit_eq]
    exact h.of_eq rfl (fun _ => rfl) rfl rfl
  | zone ranges =>
    exact h.of_eq rfl (vset_cutDemand _ (reloadedZone_cutDemand ..)) rfl rfl
  | budget ranges =>
    rw [applyLoadBudget_eq]
    exact h.of_eq rfl (applyLoadBudget_cutDemand _ s) rfl rfl
  | period => exact h.of_eq rfl (periodComputation_cutDemand s) rfl rfl
  | drive z => exact h.of_eq rfl (vset_cutDemand _ rfl) rfl rfl
  | trip entry untripped n => exact h.trip entry untripped n
  | untrip entry tripped n => exact h.untrip entry tripped n
  | refill => exact h.refill ..
  | resetRule i => exact h.reset i
  | host => exact h.moveHost _
  | settled | boot | restart | off | drain | standby =>
    refine RuleCounts.moveHost ?_ _
    exact h.of_eq rfl (fun _ => rfl) rfl rfl
  | count | latch | forget | ignore | select | resetRecords | notice | noticeSent | replySent | flush | answered | abandoned
  | drained | link | stored | storedReply | sequence | ladder | channel | poll | window | keypad | keymapEntry
  | keymapTimeout | stack | keys | supplied | railOn | railsGoOff | railReleased | settleStopped | requested
  | attempted | steady | unlisted | listed | logged => exact h.of_eq rfl (fun _ => rfl) rfl rfl

theorem countLaw_law : Law CountLaw where
  seen _ := Iff.rfl
  move m h := (countLaw_iff _).2 (ruleCounts_move m ((countLaw_iff _).1 h))
  claim c h := by
    cases c with
    | reply | store | join => exact h
  lost _ _ := (countLaw_iff _).2 (ruleCounts_fresh ..)
  applied _ _ := (countLaw_iff _).2 (ruleCounts_fresh ..)

/-- Settles O16: a trip raises the count of its level action, and a clear, a load, a flush or a reset lowers it. -/
theorem stepKeepsTheRuleCounts : Obligations.StepKeepsTheRuleCounts := by
  unfold Obligations.StepKeepsTheRuleCounts
  exact fun s t h done => countLaw_law.step done h

end Sys2Proof.Machine
end

section
/-! SUPPORT. O17, the laws of the Keymap Unit; O12, the ranges of every table and every image; O15, the sizes of the restart
ladder's lists. -/

namespace Sys2Proof.Machine

open Sys2Proof

/-! ### The Keymap Unit (O17) -/

theorem moveHost_keymap (new : HostState) (s : State) : (moveHost new s).keymap = keymapAfter new s := by
  cases h : new.restartEvent with
  | false => rw [moveHost_plain h]
  | true =>
    rw [moveHost_restartEvent h, keymapAfter, HostState.not_keysReported_of_restartEvent h]
    rfl

theorem KeymapLaw.of_eq {s t : State} (h : KeymapLaw s) (keymap : t.keymap = s.keymap) (host : t.hpc.host = s.hpc.host) :
    KeymapLaw t := by
  obtain ⟨stack, marks⟩ := h
  exact ⟨keymap ▸ stack, fun quiet p => keymap ▸ marks (host ▸ quiet) p⟩

theorem unreported_stack (s : State) : (unreported s).stack = s.keymap.stack := by
  unfold unreported
  split
  · rfl
  · rfl

/-- Once the host has left RUN and WARN no press is marked reported (R141). -/
theorem KeymapLaw.unreported {s : State} (h : KeymapLaw s) (p : Position) :
    (unreported s).positions[p].reported = false := by
  unfold Machine.unreported
  split
  · rw [vmap_get]
  · next quiet => exact h.2 (Bool.eq_false_iff.2 quiet) p

theorem KeymapLaw.moveHost {s : State} (h : KeymapLaw s) (new : HostState) : KeymapLaw (moveHost new s) := by
  rw [KeymapLaw, moveHost_keymap, moveHost_host, keymapAfter]
  cases reports : new.keysReported with
  | true => exact ⟨h.1, fun quiet => absurd quiet.symm Bool.false_ne_true⟩
  | false => exact ⟨(unreported_stack s).symm ▸ h.1, fun _ => h.unreported⟩

theorem keymapLaw_fresh (power : Power) (image : Image) (store : Store) (loaded : ImageState) (pins : Vector Bool 3)
    (choice : Nat) (pending : List Instr) : KeymapLaw (State.fresh power image store loaded pins choice pending) := by
  refine ⟨Nat.zero_le _, fun _ p => ?_⟩
  simp only [State.fresh, Keymap.initial, Fin.getElem_fin, Vector.getElem_replicate]
  rfl

theorem keymapLaw_move {s t : State} (m : Move s t) (h : KeymapLaw s) : KeymapLaw t := by
  cases m with
  | quiet same => exact of_same_core (P := KeymapLaw) (fun _ => Iff.rfl) same h
  | transmit => rw [startTransmit_eq]; exact h
  | budget => rw [applyLoadBudget_eq]; exact h
  | trip => rw [applyLevel, changeLevel_eq]; exact h
  | untrip => rw [releaseLevel, changeLevel_eq]; exact h
  | refill => rw [refillSlot, releaseSlot_eq]; exact h
  | resetRule => rw [releaseSlot_eq]; exact h
  | stack fits =>
    obtain ⟨stack, marks⟩ := h
    exact ⟨fits.elim id fun shorter => shorter.trans stack, marks⟩
  | keys marked =>
    obtain ⟨stack, marks⟩ := h
    refine ⟨stack, fun quiet p => Bool.eq_false_iff.2 fun hp => ?_⟩
    rcases marked p hp with before | reports
    · exact Bool.false_ne_true ((marks quiet p).symm.trans before)
    · exact Bool.false_ne_true (quiet.symm.trans reports)
  | host => exact h.moveHost _
  | settled | boot | restart | off | drain | standby =>
    refine KeymapLaw.moveHost ?_ _
    exact h
  | count | latch | forget | ignore | select | resetRecords | notice | noticeSent | replySent | flush | answered | abandoned
  | drained | link | stored | storedReply | sequence | ladder | zone | channel | poll | window | keypad | keymapEntry
  | keymapTimeout | period | drive | supplied | railOn | railsGoOff | railReleased | settleStopped | requested
  | attempted | steady | unlisted | listed | logged => exact h

theorem keymapLaw_law : Law KeymapLaw where
  seen _ := Iff.rfl
  move := keymapLaw_move
  claim c h := by
    cases c with
    | reply | store | join => exact h
  lost _ _ := keymapLaw_fresh ..
  applied _ _ := keymapLaw_fresh ..

/-- Settles O17: a push needs room, a mark needs RUN or WARN, and the host's leaving them clears the marks. -/
theorem stepKeepsTheKeymapLaw : Obligations.StepKeepsTheKeymapLaw := by
  unfold Obligations.StepKeepsTheKeymapLaw
  exact fun s t h done => keymapLaw_law.step done h

/-! ### Tables and images (O12) -/

theorem replicate_get {α : Type} {n : Nat} (x : α) (i : Fin n) : (Vector.replicate n x)[i] = x :=
  Vector.getElem_replicate i.isLt

theorem Image.valid_factory : Image.factory.Valid := by
  have zones : ∀ z : Zone, (ZoneRecord.factory z).inRange = true := by decide
  refine ⟨fun w => ?_, fun c => ?_, by decide, fun k e he => ?_, fun z => ?_, by decide, by decide, by decide, by decide,
    fun k => ?_, by decide⟩
  · rw [Image.factory, replicate_get]
    decide
  · rw [Image.factory, replicate_get]
    decide
  · rw [Image.factory, replicate_get] at he
    exact absurd he.symm (Option.some_ne_none e)
  · rw [Image.factory, quad_get]
    exact zones z
  · rw [Image.factory, replicate_get]
    rfl

theorem Store.tables_valid {st : Store} (h : ∀ i, st.held = some i → i.Valid) : st.tables.Valid := by
  cases st with
  | image i => exact h i rfl
  | empty => exact Image.valid_factory
  | damaged => exact Image.valid_factory

/-- A change that leaves the tables and both images. -/
theorem TablesInRange.of_eq {s t : State} (h : TablesInRange s) (tables : captureImage .low t = captureImage .low s)
    (store : t.store = s.store) (image : t.imageState.captured = s.imageState.captured) : TablesInRange t := by
  obtain ⟨force, held, captured⟩ := h
  exact ⟨tables ▸ force, fun i hi => held i (store ▸ hi), fun i hi => captured i (image ▸ hi)⟩

theorem budgeted_eq (new : HostState) (s : State) :
    budgeted new s = { s.heat with zones := (budgeted new s).zones, limited := (budgeted new s).limited } := by
  unfold budgeted
  split
  · rw [immediateRecompute_heat]
  · rfl

theorem keymapAfter_tables (new : HostState) (s : State) :
    (keymapAfter new s).entries = s.keymap.entries ∧ (keymapAfter new s).layerTimeout = s.keymap.layerTimeout := by
  unfold keymapAfter unreported
  split
  · exact ⟨rfl, rfl⟩
  · split
    · exact ⟨rfl, rfl⟩
    · exact ⟨rfl, rfl⟩

theorem moveHost_records (new : HostState) (s : State) :
    (moveHost new s).hpc.sequence = s.hpc.sequence ∧ (moveHost new s).hpc.ladder = s.hpc.ladder := by
  cases h : new.restartEvent with
  | false => rw [moveHost_plain h]; exact ⟨rfl, rfl⟩
  | true => rw [moveHost_restartEvent h]; exact ⟨rfl, rfl⟩

theorem moveHost_windows (new : HostState) (s : State) : (moveHost new s).relay.windows = s.relay.windows := by
  cases h : new.restartEvent with
  | false => rw [moveHost_plain h]
  | true => rw [moveHost_restartEvent h]; rfl

theorem captureImage_moveHost (speed : Speed) (new : HostState) (s : State) :
    captureImage speed (moveHost new s) = captureImage speed s := by
  obtain ⟨sequence, ladder⟩ := moveHost_records new s
  obtain ⟨entries, timeout⟩ := keymapAfter_tables new s
  have outs : (moveHost new s).outs.planeMask = s.outs.planeMask ∧ (moveHost new s).outs.foreground = s.outs.foreground
      ∧ (moveHost new s).outs.indicator = s.outs.indicator := by
    rw [moveHost_outs]
    split
    · exact ⟨rfl, rfl, rfl⟩
    · exact ⟨rfl, rfl, rfl⟩
  have heat : (moveHost new s).heat.records = s.heat.records ∧ (moveHost new s).heat.budget = s.heat.budget := by
    rw [moveHost_heat, budgeted_eq]
    exact ⟨rfl, rfl⟩
  simp only [captureImage, sequence, ladder, outs, heat, moveHost_windows]
  rw [moveHost_eq]
  simp only [moveHost_keymap, entries, timeout]

@[simp] theorem ImageState.captured_unclaim (i : ImageState) : i.unclaim.captured = i.captured := by cases i <;> rfl

theorem moveHost_captured (new : HostState) (s : State) : (moveHost new s).imageState.captured = s.imageState.captured := by
  cases h : new.restartEvent with
  | false => rw [moveHost_plain h]
  | true => rw [moveHost_restartEvent h]; exact ImageState.captured_unclaim _

theorem TablesInRange.moveHost {s : State} (h : TablesInRange s) (new : HostState) : TablesInRange (moveHost new s) :=
  h.of_eq (captureImage_moveHost ..) (by rw [moveHost_eq]) (moveHost_captured ..)

/-- A table in range written at one place by an entry in range. -/
theorem vset_inRange {α : Type} {n : Nat} {inRange : α → Bool} {v : Vector α n} (h : ∀ i : Fin n, inRange v[i] = true)
    {x : α} (hx : inRange x = true) (k i : Fin n) : inRange (vset v k x)[i] = true := by
  rw [vset_get]
  split
  · exact hx
  · exact h i

theorem tablesInRange_refill {s : State} (h : TablesInRange s) {i : Slot} {e : Option ActionEntry}
    (fits : ∀ a, e = some a → a.inRange = true ∧ a.key % 8 = i.val / 4) : TablesInRange (refillSlot i e s) := by
  obtain ⟨⟨windows, table, poll, actions, rest⟩, stored, captured⟩ := h
  have entries (k : Slot) : (refillSlot i e s).acts.entries[k] = if i = k then e else s.acts.entries[k] := by
    simp only [refillSlot, setRule, vset_get, releaseSlot_acts]
  have filled (k : Slot) (a : ActionEntry) (ha : (refillSlot i e s).acts.entries[k] = some a) :
      a.inRange = true ∧ a.key % 8 = k.val / 4 := by
    rw [entries] at ha
    split at ha
    · next same => exact same ▸ fits a ha
    · exact actions k a ha
  rw [refillSlot, releaseSlot_eq] at filled ⊢
  exact ⟨⟨windows, table, poll, filled, rest⟩, stored, captured⟩

theorem tablesInRange_move {s t : State} (m : Move s t) (h : TablesInRange s) : TablesInRange t := by
  have ⟨⟨windows, table, poll, actions, zones, budget, sequence, ladder, keypad, keymap, timeout⟩, stored, captured⟩ := h
  cases m with
  | quiet same => exact of_same_core (P := TablesInRange) (fun _ => Iff.rfl) same h
  | transmit => rw [startTransmit_eq]; exact h
  | trip => rw [applyLevel, changeLevel_eq]; exact h
  | untrip => rw [releaseLevel, changeLevel_eq]; exact h
  | resetRule => rw [releaseSlot_eq]; exact h
  | refill fits => exact tablesInRange_refill h fits
  | flush => exact h.of_eq rfl rfl (ImageState.captured_unclaim _)
  | stored storing | storedReply storing =>
    have image := captured _ (by rw [storing]; rfl)
    exact ⟨h.1, fun i hi => Option.some.inj hi ▸ image, fun i hi => absurd hi.symm (Option.some_ne_none i)⟩
  | sequence ranges =>
    exact ⟨⟨windows, table, poll, actions, zones, budget, ranges, ladder, keypad, keymap, timeout⟩, stored, captured⟩
  | ladder ranges =>
    exact ⟨⟨windows, table, poll, actions, zones, budget, sequence, ranges, keypad, keymap, timeout⟩, stored, captured⟩
  | zone ranges =>
    exact ⟨⟨windows, table, poll, actions, vset_inRange zones ranges _, budget, sequence, ladder, keypad, keymap, timeout⟩,
      stored, captured⟩
  | budget ranges =>
    rw [applyLoadBudget_eq]
    exact ⟨⟨windows, table, poll, actions, zones, ranges, sequence, ladder, keypad, keymap, timeout⟩, stored, captured⟩
  | channel ranges c =>
    exact ⟨⟨windows, vset_inRange table ranges _, poll, actions, zones, budget, sequence, ladder, keypad, keymap, timeout⟩,
      stored, captured⟩
  | poll ranges =>
    exact ⟨⟨windows, table, ranges, actions, zones, budget, sequence, ladder, keypad, keymap, timeout⟩, stored, captured⟩
  | window ranges w =>
    exact ⟨⟨vset_inRange windows ranges _, table, poll, actions, zones, budget, sequence, ladder, keypad, keymap, timeout⟩,
      stored, captured⟩
  | keypad ranges =>
    exact ⟨⟨windows, table, poll, actions, zones, budget, sequence, ladder, ranges, keymap, timeout⟩, stored, captured⟩
  | keymapEntry ranges k =>
    exact ⟨⟨windows, table, poll, actions, zones, budget, sequence, ladder, keypad, vset_inRange keymap ranges _, timeout⟩,
      stored, captured⟩
  | keymapTimeout ranges =>
    exact ⟨⟨windows, table, poll, actions, zones, budget, sequence, ladder, keypad, keymap, ranges⟩, stored, captured⟩
  | period => rw [periodComputation_heat]; exact h
  | host => exact h.moveHost _
  | settled | boot | restart | off | drain | standby =>
    refine TablesInRange.moveHost ?_ _
    exact h
  | count | latch | forget | ignore | select | resetRecords | notice | noticeSent | replySent | answered | abandoned
  | drained | link | drive | stack | keys | supplied | railOn | railsGoOff | railReleased | settleStopped | requested
  | attempted | steady | unlisted | listed | logged => exact h

theorem tablesInRange_fresh {image : Image} (valid : image.Valid) {store : Store} (held : ∀ i, store.held = some i → i.Valid)
    {loaded : ImageState} (idle : loaded.captured = none) (power : Power) (pins : Vector Bool 3) (choice : Nat)
    (pending : List Instr) : TablesInRange (State.fresh power image store loaded pins choice pending) :=
  ⟨valid, held, fun i hi => absurd (hi.symm.trans idle) (Option.some_ne_none i)⟩

theorem storeAfterLoss_held {s : State} (h : TablesInRange s) (i : Image) (hi : (storeAfterLoss s).held = some i) :
    i.Valid := by
  unfold storeAfterLoss at hi
  split at hi
  · exact absurd hi.symm (Option.some_ne_none i)
  · exact h.2.1 i hi

theorem Store.loadedState_captured (st : Store) : st.loadedState.captured = none := by cases st <;> rfl

theorem tablesInRange_law : Law TablesInRange where
  seen _ := Iff.rfl
  move := tablesInRange_move
  claim c h := by
    cases c with
    | reply | join => exact h
    | store =>
      obtain ⟨force, stored, -⟩ := h
      exact ⟨force, stored, fun i hi => Option.some.inj hi ▸ force⟩
  lost _ h := tablesInRange_fresh Image.valid_factory (storeAfterLoss_held h) rfl ..
  applied _ h := tablesInRange_fresh (Store.tables_valid (storeAfterLoss_held h)) (storeAfterLoss_held h)
    (Store.loadedState_captured _) ..

/-- Settles O12: a load replaces a table by what its reader found in range, and a store captures the tables as they stand. -/
theorem stepKeepsTablesInRange : Obligations.StepKeepsTablesInRange := by
  unfold Obligations.StepKeepsTablesInRange
  exact fun s t h done => tablesInRange_law.step done h

end Sys2Proof.Machine
end

section
/-! SUPPORT. O15, the sizes of the restart ladder's lists (R99, R103, R110); O14, the host lines (R1, R108). -/

namespace Sys2Proof.Machine

open Sys2Proof

/-! ### The restart ladder (O15) -/

theorem LadderLaw.of_hpc {s t : State} (h : LadderLaw s) (soft : t.hpc.softCount = s.hpc.softCount)
    (hard : t.hpc.hardList = s.hpc.hardList) (ladder : t.hpc.ladder = s.hpc.ladder) (log : t.hpc.log = s.hpc.log)
    (seq : t.hpc.logSeq = s.hpc.logSeq) : LadderLaw t := by
  obtain ⟨softs, hards, logs, seqs⟩ := h
  exact ⟨soft ▸ softs, by rw [hard, ladder]; exact hards, log ▸ logs, seq ▸ seqs⟩

theorem LadderLaw.moveHost {s : State} (h : LadderLaw s) (new : HostState) : LadderLaw (moveHost new s) := by
  cases e : new.restartEvent with
  | false => rw [moveHost_plain e]; exact h
  | true => rw [moveHost_restartEvent e]; exact h

/-- The list a hard-restart decision leaves holds at most the hard limit (R103). -/
theorem hardListAfter_length {s : State} (positive : 1 ≤ s.hpc.ladder.hardLimit)
    (bounded : s.hpc.hardList.length ≤ s.hpc.ladder.hardLimit) : (hardListAfter s).length ≤ s.hpc.ladder.hardLimit := by
  have pruned := (List.length_filter_le (fun u => decide (uptime s - u ≤ 60 * s.hpc.ladder.hardWindow)) s.hpc.hardList).trans
    bounded
  simp only [hardListAfter, List.length_append, List.length_singleton]
  split
  · rw [List.length_drop]
    omega
  · omega

theorem ladder_ranges {s : State} (h : TablesInRange s) : 1 ≤ s.hpc.ladder.hardLimit ∧ s.hpc.ladder.maxSoft ≤ 3 := by
  have ladder : s.hpc.ladder.inRange = true := h.1.2.2.2.2.2.2.2.1
  simp only [LadderRecord.inRange, Bool.and_eq_true, decide_eq_true_eq] at ladder
  omega

theorem ladderLaw_move {s t : State} (m : Move s t) (ranges : TablesInRange s) (h : LadderLaw s) : LadderLaw t := by
  obtain ⟨positive, three⟩ := ladder_ranges ranges
  have ⟨soft, hard, log, seq⟩ := h
  cases m with
  | quiet same => exact of_same_core (P := LadderLaw) (fun _ => Iff.rfl) same h
  | transmit => rw [startTransmit_eq]; exact h
  | budget => rw [applyLoadBudget_eq]; exact h
  | trip => rw [applyLevel, changeLevel_eq]; exact h
  | untrip => rw [releaseLevel, changeLevel_eq]; exact h
  | refill => rw [refillSlot, releaseSlot_eq]; exact h
  | resetRule => rw [releaseSlot_eq]; exact h
  | ladder _ s => exact ⟨soft, by simp only [applyLoadLadder, List.length_drop]; omega, log, seq⟩
  | attempted below => exact ⟨(Nat.succ_le_of_lt below).trans three, hard, log, seq⟩
  | steady => exact ⟨Nat.zero_le _, hard, log, seq⟩
  | unlisted => exact ⟨soft, Nat.zero_le _, log, seq⟩
  | listed => exact ⟨Nat.zero_le _, hardListAfter_length positive hard, log, seq⟩
  | logged cause action =>
    refine ⟨soft, hard, ?_, Nat.mod_lt _ (by decide)⟩
    simp only [writeLog, List.length_drop]
    omega
  | host => exact h.moveHost _
  | settled | boot | restart | off | drain | standby =>
    refine LadderLaw.moveHost ?_ _
    exact h
  | count | latch | forget | ignore | select | resetRecords | notice | noticeSent | replySent | flush | answered | abandoned
  | drained | link | stored | storedReply | sequence | zone | channel | poll | window | keypad | keymapEntry
  | keymapTimeout | period | drive | stack | keys | supplied | railOn | railsGoOff | railReleased | settleStopped
  | requested => exact h

theorem ladderLaw_fresh (power : Power) (image : Image) (store : Store) (loaded : ImageState) (pins : Vector Bool 3)
    (choice : Nat) (pending : List Instr) : LadderLaw (State.fresh power image store loaded pins choice pending) :=
  ⟨Nat.zero_le _, Nat.zero_le _, Nat.zero_le _, Nat.zero_lt_succ _⟩

theorem ladderLaw_law : Law fun s => TablesInRange s ∧ LadderLaw s where
  seen _ := Iff.rfl
  move m h := ⟨tablesInRange_move m h.1, ladderLaw_move m h.1 h.2⟩
  claim c h := by
    refine ⟨tablesInRange_law.claim c h.1, ?_⟩
    cases c with
    | reply | store | join => exact h.2
  lost s h := ⟨tablesInRange_law.lost s h.1, ladderLaw_fresh ..⟩
  applied s h := ⟨tablesInRange_law.applied s h.1, ladderLaw_fresh ..⟩

/-- Settles O15: an attempt needs a count below max soft, a decision makes room in its list, a log keeps its newest records. -/
theorem stepKeepsTheLadderLaw : Obligations.StepKeepsTheLadderLaw := by
  unfold Obligations.StepKeepsTheLadderLaw
  exact fun s t ranges h done => (ladderLaw_law.step done ⟨ranges, h⟩).2

end Sys2Proof.Machine
end

section
/-! SUPPORT. O14, the rail enables, the host reset line and the pending request follow the host state (R1, R108). -/

namespace Sys2Proof.Machine

open Sys2Proof

/-- The laws of the supply, of the lines and of a pending request. -/
structure HostLaws (s : State) : Prop where
  supply : SupplyLaw s
  lines : LinesLaw s
  request : PendingLaw s

/-! ### The Host Power Controller after a change of host state -/

theorem moveHost_pendingRestart (new : HostState) (s : State) :
    (moveHost new s).hpc.pendingRestart = requestAfter new s := by
  cases e : new.restartEvent with
  | false => rw [moveHost_plain e]
  | true => rw [moveHost_restartEvent e]

theorem moveHost_lines (new : HostState) (s : State) :
    (moveHost new s).hpc.enables = s.hpc.enables ∧ (moveHost new s).hpc.hostReset = s.hpc.hostReset
    ∧ (moveHost new s).hpc.railOff = s.hpc.railOff ∧ (moveHost new s).hpc.offSettleTimer = s.hpc.offSettleTimer := by
  cases e : new.restartEvent with
  | false => rw [moveHost_plain e]; exact ⟨rfl, rfl, rfl, rfl⟩
  | true => rw [moveHost_restartEvent e]; exact ⟨rfl, rfl, rfl, rfl⟩

theorem moveHost_power (new : HostState) (s : State) : (moveHost new s).power = s.power := by rw [moveHost_eq]

/-- A request outlives a change of host state only between running states (R108). -/
theorem pendingLaw_moveHost {s : State} (new : HostState)
    (before : s.hpc.pendingRestart.isSome = true → s.hpc.host.running = true) : PendingLaw (moveHost new s) := by
  rw [PendingLaw, moveHost_pendingRestart, moveHost_host, requestAfter]
  cases new.running with
  | true => exact fun _ => rfl
  | false =>
    intro h
    split at h
    · exact absurd h Bool.false_ne_true
    · next stays => exact absurd (before h) (by simpa using stays)

/-- The lines of a host state: which rails may be on, whether the reset is asserted. -/
theorem hostLaws_moveHost {s : State} (new : HostState) (supplied : s.power = .running)
    (powered : new.powered = false → s.hpc.enables = #v[false, false, false])
    (reset : s.hpc.hostReset = !new.delivers) (railOn : s.hpc.railOff = false) (settled : s.hpc.offSettleTimer = none)
    (request : s.hpc.pendingRestart.isSome = true → s.hpc.host.running = true) : HostLaws (moveHost new s) := by
  obtain ⟨enables, hostReset, railOff, timer⟩ := moveHost_lines new s
  refine ⟨fun h => absurd ((moveHost_power new s).trans supplied) h, ?_, pendingLaw_moveHost new request⟩
  rw [LinesLaw, enables, hostReset, railOff, timer, moveHost_host, reset, railOn, settled]
  refine ⟨powered, ?_, fun h => absurd h Bool.false_ne_true, fun h => absurd h Bool.false_ne_true⟩
  cases new.delivers <;> simp

/-! ### What the laws say of the host states -/

section
variable {s : State} (h : HostLaws s)
include h

theorem HostLaws.running_of_host (host : s.hpc.host ≠ .standby) : s.power = .running :=
  Decidable.not_not.1 fun off => host (h.supply off)

theorem HostLaws.railOff_of_host (host : s.hpc.host ≠ .drain) : s.hpc.railOff = false :=
  Bool.eq_false_iff.2 fun e => host (h.lines.2.2.1 e)

theorem HostLaws.settled_of_host (host : s.hpc.host ≠ .drain) : s.hpc.offSettleTimer = none := by
  cases e : s.hpc.offSettleTimer with
  | none => rfl
  | some t =>
    have off := h.lines.2.2.2 (by rw [e]; rfl)
    exact absurd off (by rw [h.railOff_of_host host]; exact Bool.false_ne_true)

theorem HostLaws.reset_of_host (host : s.hpc.host ≠ .drain) : s.hpc.hostReset = !s.hpc.host.delivers := by
  have line := h.lines.2.1
  cases d : s.hpc.host.delivers with
  | false => exact line.2 (.inl d)
  | true =>
    refine Bool.eq_false_iff.2 fun on => ?_
    rcases line.1 on with deaf | ⟨drain, -⟩
    · rw [d] at deaf
      exact absurd deaf.symm Bool.false_ne_true
    · exact host drain

end

/-- What a change that host state alone makes leaves to the lines. -/
theorem Leads.keeps_lines {s : State} {new : HostState} (h : Leads s new) :
    s.hpc.host ≠ .drain ∧ s.hpc.host.delivers = new.delivers ∧ (new.powered = false → s.hpc.host.powered = false)
    ∧ (s.hpc.host = .standby → s.power = .running) := by
  cases new with
  | preheat =>
    rcases h with ⟨host, supplied⟩ | host | host | host
    · rw [host]; exact ⟨HostState.noConfusion, rfl, fun _ => rfl, fun _ => supplied⟩
    · rw [host]; exact ⟨HostState.noConfusion, rfl, fun _ => rfl, HostState.noConfusion⟩
    · rw [host]; exact ⟨HostState.noConfusion, rfl, fun _ => rfl, HostState.noConfusion⟩
    · rw [host]; exact ⟨HostState.noConfusion, rfl, fun _ => rfl, HostState.noConfusion⟩
  | soak =>
    have host : s.hpc.host = .preheat := h
    rw [host]
    exact ⟨HostState.noConfusion, rfl, fun _ => rfl, HostState.noConfusion⟩
  | rails =>
    rcases h with host | host
    · rw [host]; exact ⟨HostState.noConfusion, rfl, fun _ => rfl, HostState.noConfusion⟩
    · rw [host]; exact ⟨HostState.noConfusion, rfl, fun _ => rfl, HostState.noConfusion⟩
  | run =>
    rcases h with host | host
    · rw [host]; exact ⟨HostState.noConfusion, rfl, fun e => absurd e.symm Bool.false_ne_true, HostState.noConfusion⟩
    · rw [host]; exact ⟨HostState.noConfusion, rfl, fun e => absurd e.symm Bool.false_ne_true, HostState.noConfusion⟩
  | warn =>
    have host : s.hpc.host = .run := h
    rw [host]
    exact ⟨HostState.noConfusion, rfl, fun e => absurd e.symm Bool.false_ne_true, HostState.noConfusion⟩
  | standby | boot | restart | powerCycle | lockout | drain => exact h.elim

theorem HostState.not_drain_of_running {h : HostState} (e : h.running = true) : h ≠ .drain := by
  rintro rfl
  exact Bool.false_ne_true e

theorem HostState.not_standby_of_running {h : HostState} (e : h.running = true) : h ≠ .standby := by
  rintro rfl
  exact Bool.false_ne_true e

theorem not_standby_of_railWatched {s : State} (e : railWatched s = true) : s.hpc.host ≠ .standby := by
  intro host
  rw [railWatched, host] at e
  exact Bool.false_ne_true e

theorem railOn_of_railWatched {s : State} (h : HostLaws s) (e : railWatched s = true) : s.hpc.railOff = false := by
  refine Bool.eq_false_iff.2 fun off => ?_
  have host := h.lines.2.2.1 off
  rw [railWatched, host, off] at e
  exact Bool.false_ne_true e

theorem HostLaws.settled_of_railOn {s : State} (h : HostLaws s) (e : s.hpc.railOff = false) : s.hpc.offSettleTimer = none := by
  cases timer : s.hpc.offSettleTimer with
  | none => rfl
  | some t =>
    have off := h.lines.2.2.2 (by rw [timer]; rfl)
    exact absurd (e.symm.trans off) Bool.false_ne_true

theorem RestartAwaits.running {s : State} (awaits : RestartAwaits s) (h : HostLaws s) : s.hpc.host.running = true :=
  h.request awaits.1

/-- Where a rail is watched or a restart awaits its reply, the rails are watched. -/
theorem railWatched_of_live {s : State} (h : HostLaws s) (live : railWatched s = true ∨ RestartAwaits s) :
    railWatched s = true :=
  live.elim id fun awaits => railWatched_of_running (awaits.running h)

theorem hostLaws_of_hpc {s t : State} (h : HostLaws s) (hpc : t.hpc = s.hpc) (power : t.power = s.power) : HostLaws t := by
  obtain ⟨supply, lines, request⟩ := h
  refine ⟨?_, ?_, ?_⟩
  · rw [SupplyLaw, hpc, power]; exact supply
  · rw [LinesLaw, hpc]; exact lines
  · rw [PendingLaw, hpc]; exact request

theorem request_of_live {s : State} (h : HostLaws s) {p : Option RestartKind} (request : p = none ∨ p = s.hpc.pendingRestart)
    (e : p.isSome = true) : s.hpc.host.running = true := by
  rcases request with rfl | rfl
  · exact absurd e Bool.false_ne_true
  · exact h.request e

theorem hostLaws_move {s t : State} (m : Move s t) (h : HostLaws s) : HostLaws t := by
  have ⟨supply, ⟨enables, reset, off, settles⟩, request⟩ := h
  cases m with
  | quiet same => exact of_same_core (P := HostLaws) (fun _ => ⟨fun ⟨a, b, c⟩ => ⟨a, b, c⟩, fun ⟨a, b, c⟩ => ⟨a, b, c⟩⟩) same h
  | transmit => exact hostLaws_of_hpc h (startTransmit_hpc s) (startTransmit_power s)
  | budget => rw [applyLoadBudget_eq]; exact hostLaws_of_hpc h rfl rfl
  | trip => rw [applyLevel, changeLevel_eq]; exact hostLaws_of_hpc h rfl rfl
  | untrip => rw [releaseLevel, changeLevel_eq]; exact hostLaws_of_hpc h rfl rfl
  | refill => rw [refillSlot, releaseSlot_eq]; exact hostLaws_of_hpc h rfl rfl
  | resetRule => rw [releaseSlot_eq]; exact hostLaws_of_hpc h rfl rfl
  | host leads =>
    obtain ⟨host, delivers, powered, supplied⟩ := leads.keeps_lines
    have power : s.power = .running := by
      by_cases standby : s.hpc.host = .standby
      · exact supplied standby
      · exact h.running_of_host standby
    exact hostLaws_moveHost _ power (fun e => enables (powered e)) (delivers ▸ h.reset_of_host host)
      (h.railOff_of_host host) (h.settled_of_host host) request
  | settled loading =>
    have host : s.hpc.host = .standby := supply (by rw [loading]; exact Power.noConfusion)
    have drain : s.hpc.host ≠ .drain := by rw [host]; exact HostState.noConfusion
    have line := h.reset_of_host drain
    rw [host] at line
    exact hostLaws_moveHost _ rfl (fun _ => enables (by rw [host]; rfl)) line (h.railOff_of_host drain)
      (h.settled_of_host drain) request
  | supplied => exact ⟨fun e => absurd rfl e, h.lines, request⟩
  | railOn host => exact ⟨supply, ⟨fun e => absurd (host ▸ e) Bool.noConfusion, reset, off, settles⟩, request⟩
  | boot host =>
    have drain : s.hpc.host ≠ .drain := by rcases host with e | e <;> rw [e] <;> exact HostState.noConfusion
    have standby : s.hpc.host ≠ .standby := by rcases host with e | e <;> rw [e] <;> exact HostState.noConfusion
    exact hostLaws_moveHost _ (h.running_of_host standby) (fun e => absurd e.symm Bool.false_ne_true) rfl
      (h.railOff_of_host drain) (h.settled_of_host drain) request
  | restart live pending =>
    have running := live.elim id fun awaits => awaits.running h
    have drain := HostState.not_drain_of_running running
    exact hostLaws_moveHost _ (h.running_of_host (HostState.not_standby_of_running running))
      (fun e => absurd e.symm Bool.false_ne_true) rfl (h.railOff_of_host drain) (h.settled_of_host drain)
      (request_of_live h pending)
  | off target live pending =>
    have watched := railWatched_of_live h live
    have on := railOn_of_railWatched h watched
    have power := h.running_of_host (not_standby_of_railWatched watched)
    rcases target with rfl | rfl
    · exact hostLaws_moveHost _ power (fun _ => rfl) rfl on (h.settled_of_railOn on) (request_of_live h pending)
    · exact hostLaws_moveHost _ power (fun _ => rfl) rfl on (h.settled_of_railOn on) (request_of_live h pending)
  | drain live =>
    have host := HostState.not_drain_of_running live
    have line := h.reset_of_host host
    rw [HostState.delivers_of_running live] at line
    exact hostLaws_moveHost _ (h.running_of_host (HostState.not_standby_of_running live))
      (fun e => absurd e.symm Bool.false_ne_true) line rfl (h.settled_of_host host) request
  | railsGoOff host =>
    refine ⟨supply, ⟨enables, ?_, fun _ => host, fun _ => rfl⟩, request⟩
    exact ⟨fun _ => .inr ⟨host, rfl⟩, fun _ => rfl⟩
  | railReleased host settling =>
    exact ⟨supply, ⟨fun e => absurd (host ▸ e) Bool.noConfusion, reset, off, fun _ => settles settling⟩, request⟩
  | standby host settling =>
    have line := reset.2 (.inr ⟨host, settles settling⟩)
    have standby : s.hpc.host ≠ .standby := by rw [host]; exact HostState.noConfusion
    exact hostLaws_moveHost _ (h.running_of_host standby) (fun _ => rfl) line rfl rfl request
  | settleStopped => exact ⟨supply, ⟨enables, reset, off, fun e => absurd e Bool.false_ne_true⟩, request⟩
  | requested live => exact ⟨supply, h.lines, fun _ => live⟩
  | count | latch | forget | ignore | select | resetRecords | notice | noticeSent | replySent | flush | answered | abandoned
  | drained | link | stored | storedReply | sequence | ladder | zone | channel | poll | window | keypad | keymapEntry
  | keymapTimeout | period | drive | stack | keys | attempted | steady | unlisted | listed | logged =>
    exact ⟨supply, h.lines, request⟩

theorem hostLaws_fresh (power : Power) (image : Image) (store : Store) (loaded : ImageState) (pins : Vector Bool 3)
    (choice : Nat) (pending : List Instr) : HostLaws (State.fresh power image store loaded pins choice pending) := by
  refine ⟨fun _ => rfl, ⟨fun _ => rfl, ⟨fun _ => .inl rfl, fun _ => rfl⟩, ?_, ?_⟩, ?_⟩
  · exact fun e => absurd e Bool.false_ne_true
  · exact fun e => absurd e Bool.false_ne_true
  · exact fun e => absurd e Bool.false_ne_true

theorem hostLaws_law : Law HostLaws where
  seen _ := ⟨fun ⟨a, b, c⟩ => ⟨a, b, c⟩, fun ⟨a, b, c⟩ => ⟨a, b, c⟩⟩
  move := hostLaws_move
  claim c h := by
    cases c with
    | reply | store | join => exact hostLaws_of_hpc h rfl rfl
  lost _ _ := hostLaws_fresh ..
  applied _ _ := hostLaws_fresh ..

/-- Settles O14: each change of host state sets the lines its new state demands, and drops a request it may not keep. -/
theorem stepKeepsTheHostLines : Obligations.StepKeepsTheHostLines := by
  unfold Obligations.StepKeepsTheHostLines
  intro s t supply lines request done
  obtain ⟨supply', lines', request'⟩ := hostLaws_law.step done ⟨supply, lines, request⟩
  exact ⟨supply', lines', request'⟩

end Sys2Proof.Machine
end

section
/-! SUPPORT. O13, the sizes of the queues and their silence while the host is off (R148, R155, R162, R165, R166). -/

namespace Sys2Proof.Machine

open Sys2Proof

/-- The laws of the relay, of the reply queue and of the notice queue, with that of the supply. -/
structure QueueLaws (s : State) : Prop where
  supply : SupplyLaw s
  queues : QueueLaw s
  silence : SilenceLaw s
  transmit : TransmitLaw s
  link : LinkLaw s

theorem queueLaws_seen (s : State) : QueueLaws s ↔ QueueLaws (core s) :=
  ⟨fun ⟨a, b, c, d, e⟩ => ⟨a, b, c, d, e⟩, fun ⟨a, b, c, d, e⟩ => ⟨a, b, c, d, e⟩⟩

theorem QueueLaws.of_eq {s t : State} (h : QueueLaws s) (relay : t.relay = s.relay) (panel : t.panel = s.panel)
    (image : t.imageState = s.imageState) (host : t.hpc.host = s.hpc.host) (power : t.power = s.power) : QueueLaws t := by
  obtain ⟨supply, queues, silence, transmit, link⟩ := h
  refine ⟨?_, ?_, ?_, ?_, ?_⟩
  · rw [SupplyLaw, power, host]; exact supply
  · rw [QueueLaw, occupied_eq, relay, panel, image, ← occupied_eq]; exact queues
  · rw [SilenceLaw, storeClaim, relay, panel, image, host]; exact silence
  · rw [TransmitLaw, panel]; exact transmit
  · rw [LinkLaw, relay]; exact link

/-! ### What the laws say of a state -/

section
variable {s : State} (h : QueueLaws s)
include h

theorem QueueLaws.powered (host : s.hpc.host ≠ .standby) : s.power = .running :=
  Decidable.not_not.1 fun off => host (h.supply off)

theorem QueueLaws.delivers_of_reply (waits : s.panel.replies ≠ []) : s.hpc.host.delivers = true :=
  Bool.not_eq_false _ ▸ fun deaf => waits (h.silence deaf).1

theorem QueueLaws.delivers_of_command (held : s.relay.queue ≠ []) : s.hpc.host.delivers = true :=
  Bool.not_eq_false _ ▸ fun deaf => held (h.silence deaf).2.2.1

theorem QueueLaws.powered_of_delivers (delivers : s.hpc.host.delivers = true) : s.power = .running :=
  h.powered fun standby => Bool.false_ne_true (by rw [standby] at delivers; exact delivers)

end

/-- In a host state that delivers the law of silence says nothing. -/
theorem silence_of_delivers {s : State} (delivers : s.hpc.host.delivers = true) : SilenceLaw s :=
  fun deaf => absurd (deaf.symm.trans delivers) Bool.false_ne_true

/-! ### A change of host state -/

theorem QueueLaws.moveHost_plain {s : State} (h : QueueLaws s) {new : HostState} (plain : new.restartEvent = false)
    (power : s.power = .running) (delivers : new.delivers = false → s.hpc.host.delivers = false) :
    QueueLaws (moveHost new s) := by
  obtain ⟨supply, queues, silence, transmit, link⟩ := h
  rw [Machine.moveHost_plain plain]
  exact ⟨fun off => absurd power off, queues, fun deaf => silence (delivers deaf), transmit, link⟩

theorem orphaned_not_relay {link : Option Link} {l : Link}
    (h : link.map (fun l => if l.use = .relay then { l with use := .orphan } else l) = some l) : l.use ≠ .relay := by
  obtain ⟨k, -, rfl⟩ := Option.map_eq_some_iff.1 h
  split
  · exact LinkUse.noConfusion
  · next other => exact other

theorem storeClaim_unclaim {s : State} {i : ImageState} (h : s.imageState = i.unclaim) : storeClaim s = none := by
  rw [storeClaim, h]
  cases i <;> rfl

/-- A host restart event leaves nothing waiting (R155, R166). -/
theorem QueueLaws.moveHost_restartEvent {s : State} {new : HostState} (event : new.restartEvent = true)
    (power : s.power = .running) : QueueLaws (moveHost new s) := by
  rw [Machine.moveHost_restartEvent event]
  refine ⟨fun off => absurd power off, ⟨Nat.zero_le _, List.nodup_nil, ?_, Nat.zero_le _⟩, fun _ => ⟨rfl, rfl, rfl, ?_, rfl⟩,
    ⟨Transmitter.noConfusion, Transmitter.noConfusion⟩, fun l hl relay => absurd relay (orphaned_not_relay hl)⟩
  · simp only [occupied_eq, silenced, ImageState.claims_unclaim]
    exact Nat.zero_le _
  · exact storeClaim_unclaim (i := s.imageState) rfl

/-! ### The transmitter -/

/-- What the transmitter does when asked (R165). -/
theorem startTransmit_cases (s : State) :
    startTransmit s = s
    ∨ (s.hpc.host.delivers = true ∧ s.panel.replies ≠ [] ∧ startTransmit s = { s with panel.tx := .reply })
    ∨ (s.hpc.host.delivers = true ∧ s.panel.notices ≠ [] ∧ startTransmit s = { s with panel.tx := .notice }) := by
  by_cases asked : s.hpc.host.delivers = true ∧ s.panel.tx = .idle
  · by_cases replies : s.panel.replies = []
    · by_cases notices : s.panel.notices = []
      · exact .inl (by simp only [startTransmit, replies, notices, ne_eq, not_true_eq_false, if_false, ite_self])
      · exact .inr (.inr ⟨asked.1, notices, startTransmit_notice asked.1 asked.2 replies notices⟩)
    · exact .inr (.inl ⟨asked.1, replies, startTransmit_reply asked.1 asked.2 replies⟩)
  · refine .inl (if_neg fun both => asked ?_)
    rw [Bool.and_eq_true, decide_eq_true_eq] at both
    exact both

theorem QueueLaws.startTransmit {s : State} (h : QueueLaws s) : QueueLaws (startTransmit s) := by
  obtain ⟨supply, queues, silence, transmit, link⟩ := h
  rcases startTransmit_cases s with same | ⟨delivers, waits, began⟩ | ⟨delivers, waits, began⟩
  · rw [same]
    exact ⟨supply, queues, silence, transmit, link⟩
  · rw [began]
    exact ⟨supply, queues, silence_of_delivers delivers, ⟨fun _ => waits, Transmitter.noConfusion⟩, link⟩
  · rw [began]
    exact ⟨supply, queues, silence_of_delivers delivers, ⟨Transmitter.noConfusion, fun _ => waits⟩, link⟩

/-! ### The law -/

theorem Leads.not_restartEvent {s : State} {new : HostState} (h : Leads s new) : new.restartEvent = false := by
  cases new with
  | preheat | soak | rails | run | warn => rfl
  | standby | boot | restart | powerCycle | lockout | drain => exact h.elim

theorem queueLaws_move {s t : State} (m : Move s t) (h : QueueLaws s) : QueueLaws t := by
  have ⟨supply, ⟨held, distinct, entries, notices⟩, silence, transmit, link⟩ := h
  cases m with
  | quiet same => exact of_same_core queueLaws_seen same h
  | transmit => exact h.startTransmit
  | notice delivers room n =>
    refine ⟨supply, ⟨held, distinct, entries, ?_⟩, silence_of_delivers delivers, ⟨transmit.1, fun _ => ?_⟩, link⟩
    · rw [List.length_append]
      exact room
    · exact List.append_ne_nil_of_right_ne_nil _ (List.cons_ne_nil _ _)
  | noticeSent =>
    refine ⟨supply, ⟨held, distinct, entries, (List.length_tail ▸ Nat.sub_le _ _).trans notices⟩, fun deaf => ?_,
      ⟨Transmitter.noConfusion, Transmitter.noConfusion⟩, link⟩
    obtain ⟨replies, waiting, queue, claim, -⟩ := silence deaf
    exact ⟨replies, by rw [waiting]; rfl, queue, claim, rfl⟩
  | replySent =>
    refine ⟨supply, ⟨held, distinct, (Move.replySent s).occupied_le.trans entries, notices⟩, fun deaf => ?_,
      ⟨Transmitter.noConfusion, Transmitter.noConfusion⟩, link⟩
    obtain ⟨replies, waiting, queue, claim, -⟩ := silence deaf
    exact ⟨by rw [replies]; rfl, waiting, queue, claim, rfl⟩
  | flush =>
    refine ⟨supply, ⟨held, distinct, (Move.flush s).occupied_le.trans entries, Nat.zero_le _⟩,
      fun deaf => ⟨rfl, rfl, (silence deaf).2.2.1, storeClaim_unclaim (i := s.imageState) rfl, rfl⟩,
      ⟨Transmitter.noConfusion, Transmitter.noConfusion⟩, link⟩
  | answered queue unlinked r =>
    have delivers := h.delivers_of_command (queue ▸ List.cons_ne_nil _ _)
    rw [queue] at held distinct
    refine ⟨supply, ⟨Nat.le_of_succ_le held, (List.nodup_cons.1 distinct).2,
      (Move.answered queue unlinked r).occupied_le.trans entries, notices⟩, silence_of_delivers delivers,
      ⟨fun _ => List.append_ne_nil_of_right_ne_nil _ (List.cons_ne_nil _ _), transmit.2⟩, fun l hl => ?_⟩
    exact absurd (unlinked.symm.trans hl).symm (Option.some_ne_none l)
  | abandoned =>
    refine ⟨supply, ⟨Nat.zero_le _, List.nodup_nil, (Move.abandoned s).occupied_le.trans entries, notices⟩, fun deaf => ?_,
      transmit, fun l hl relay => absurd relay (orphaned_not_relay hl)⟩
    obtain ⟨replies, waiting, -, claim, tx⟩ := silence deaf
    exact ⟨replies, waiting, rfl, claim, tx⟩
  | drained reply =>
    refine ⟨supply, ⟨Nat.zero_le _, List.nodup_nil, (Move.drained reply s).occupied_le.trans entries, notices⟩,
      fun deaf => ?_, ⟨fun tx => List.append_ne_nil_of_left_ne_nil (transmit.1 tx) _, transmit.2⟩,
      fun l hl relay => absurd relay (orphaned_not_relay hl)⟩
    obtain ⟨replies, waiting, queue, claim, tx⟩ := silence deaf
    exact ⟨by simp only [abandonRelay, replies, queue, List.map_nil, List.append_nil], waiting, rfl, claim, tx⟩
  | link l carries =>
    refine ⟨supply, ⟨held, distinct, entries, notices⟩, silence, transmit, fun k hk relay => ?_⟩
    rcases carries k hk relay with waits | ⟨j, hj, before⟩
    · exact waits
    · exact link j hj before
  | stored storing =>
    refine ⟨supply, ⟨held, distinct, (Move.stored storing).occupied_le.trans entries, notices⟩, fun deaf => ?_, transmit, link⟩
    obtain ⟨replies, waiting, queue, -, tx⟩ := silence deaf
    exact ⟨replies, waiting, queue, rfl, tx⟩
  | storedReply storing r =>
    have delivers : s.hpc.host.delivers = true := by
      refine Bool.not_eq_false _ ▸ fun deaf => ?_
      obtain ⟨-, -, -, claim, -⟩ := silence deaf
      rw [storeClaim, storing] at claim
      exact Option.some_ne_none _ claim
    exact ⟨supply, ⟨held, distinct, (Move.storedReply storing r).occupied_le.trans entries, notices⟩,
      silence_of_delivers delivers,
      ⟨fun _ => List.append_ne_nil_of_right_ne_nil _ (List.cons_ne_nil _ _), transmit.2⟩, link⟩
  | budget => rw [applyLoadBudget_eq]; exact h.of_eq rfl rfl rfl rfl rfl
  | trip => rw [applyLevel, changeLevel_eq]; exact h.of_eq rfl rfl rfl rfl rfl
  | untrip => rw [releaseLevel, changeLevel_eq]; exact h.of_eq rfl rfl rfl rfl rfl
  | refill => rw [refillSlot, releaseSlot_eq]; exact h.of_eq rfl rfl rfl rfl rfl
  | resetRule => rw [releaseSlot_eq]; exact h.of_eq rfl rfl rfl rfl rfl
  | host leads =>
    obtain ⟨-, delivers, -, supplied⟩ := leads.keeps_lines
    have power : s.power = .running := by
      by_cases standby : s.hpc.host = .standby
      · exact supplied standby
      · exact h.powered standby
    exact h.moveHost_plain (Leads.not_restartEvent leads) power fun deaf => delivers.trans deaf
  | settled loading =>
    have host : s.hpc.host = .standby := supply (by rw [loading]; exact Power.noConfusion)
    have running : QueueLaws { s with power := .running } :=
      ⟨fun off => absurd rfl off, ⟨held, distinct, entries, notices⟩, silence, transmit, link⟩
    exact running.moveHost_plain rfl rfl fun _ => by rw [host]; rfl
  | window => exact ⟨supply, ⟨held, distinct, entries, notices⟩, silence, transmit, link⟩
  | supplied => exact ⟨fun off => absurd rfl off, ⟨held, distinct, entries, notices⟩, silence, transmit, link⟩
  | boot host =>
    have standby : s.hpc.host ≠ .standby := by rcases host with e | e <;> rw [e] <;> exact HostState.noConfusion
    have same : QueueLaws { s with hpc.hostReset := false } := h.of_eq rfl rfl rfl rfl rfl
    exact same.moveHost_plain rfl (h.powered standby) fun e => absurd e.symm Bool.false_ne_true
  | restart live =>
    refine QueueLaws.moveHost_restartEvent rfl ?_
    rcases live with running | awaits
    · exact h.powered_of_delivers (HostState.delivers_of_running running)
    · exact h.powered_of_delivers (h.delivers_of_reply awaits.2)
  | off target live =>
    have power : s.power = .running := by
      rcases live with watched | awaits
      · exact h.powered (not_standby_of_railWatched watched)
      · exact h.powered_of_delivers (h.delivers_of_reply awaits.2)
    rcases target with rfl | rfl
    · exact QueueLaws.moveHost_restartEvent rfl power
    · exact QueueLaws.moveHost_restartEvent rfl power
  | drain live =>
    have same : QueueLaws { s with hpc.railOff := false } := h.of_eq rfl rfl rfl rfl rfl
    exact same.moveHost_plain rfl (h.powered_of_delivers (HostState.delivers_of_running live))
      fun e => absurd e.symm Bool.false_ne_true
  | standby host => exact QueueLaws.moveHost_restartEvent rfl (h.powered (by rw [host]; exact HostState.noConfusion))
  | count | latch | forget | ignore | select | resetRecords | sequence | ladder | zone | channel | poll | keypad
  | keymapEntry | keymapTimeout | period | drive | stack | keys | railOn | railsGoOff | railReleased | settleStopped
  | requested | attempted | steady | unlisted | listed | logged => exact h.of_eq rfl rfl rfl rfl rfl

theorem queueLaws_claim {s t : State} (c : Claim s t) (h : QueueLaws s) : QueueLaws t := by
  obtain ⟨supply, ⟨held, distinct, entries, notices⟩, silence, transmit, link⟩ := h
  cases c with
  | reply accepts r =>
    obtain ⟨delivers, room⟩ := accepts
    rw [occupied_eq] at room
    refine ⟨supply, ⟨held, distinct, ?_, notices⟩, silence_of_delivers delivers,
      ⟨fun _ => List.append_ne_nil_of_right_ne_nil _ (List.cons_ne_nil _ _), transmit.2⟩, link⟩
    simp only [occupied_eq, List.length_append, List.length_singleton]
    omega
  | store accepts idle tag speed =>
    obtain ⟨delivers, room⟩ := accepts
    refine ⟨supply, ⟨held, distinct, ?_, notices⟩, silence_of_delivers delivers, transmit, link⟩
    have unclaimed : s.imageState.claims = 0 := by
      cases e : s.imageState with
      | storing _ _ _ => rw [e] at idle; exact absurd idle.symm Bool.false_ne_true
      | valid | factory => rfl
    simp only [occupied_eq, beginStore, ImageState.claims] at room ⊢
    omega
  | join accepts apart room =>
    obtain ⟨delivers, vacant⟩ := accepts
    rw [occupied_eq] at vacant
    refine ⟨supply, ⟨?_, ?_, ?_, notices⟩, silence_of_delivers delivers, transmit,
      fun _ _ _ => List.append_ne_nil_of_right_ne_nil _ (List.cons_ne_nil _ _)⟩
    · rw [List.length_append]
      exact room
    · rw [List.map_append, List.map_singleton, List.nodup_append_comm, List.singleton_append, List.nodup_cons]
      refine ⟨fun mem => ?_, distinct⟩
      obtain ⟨x, hx, tag⟩ := List.mem_map.1 mem
      exact apart x hx tag
    · simp only [occupied_eq, List.length_append, List.length_singleton]
      omega

theorem queueLaws_fresh (power : Power) (image : Image) (store : Store) {loaded : ImageState} (idle : loaded.captured = none)
    (pins : Vector Bool 3) (choice : Nat) (pending : List Instr) :
    QueueLaws (State.fresh power image store loaded pins choice pending) := by
  have unclaimed : loaded.claims = 0 ∧ storeClaim (State.fresh power image store loaded pins choice pending) = none := by
    cases loaded with
    | storing _ _ _ => exact absurd idle (Option.some_ne_none _)
    | valid | factory => exact ⟨rfl, rfl⟩
  refine ⟨fun _ => rfl, ⟨Nat.zero_le _, List.nodup_nil, ?_, Nat.zero_le _⟩, fun _ => ⟨rfl, rfl, rfl, unclaimed.2, rfl⟩,
    ⟨Transmitter.noConfusion, Transmitter.noConfusion⟩, fun l hl => absurd hl.symm (Option.some_ne_none l)⟩
  rw [occupied_eq]
  exact (Nat.zero_add _).trans_le ((Nat.zero_add _).trans_le (unclaimed.1 ▸ Nat.zero_le _))

theorem queueLaws_law : Law QueueLaws where
  seen := queueLaws_seen
  move := queueLaws_move
  claim := queueLaws_claim
  lost _ _ := queueLaws_fresh _ _ _ rfl ..
  applied _ _ := queueLaws_fresh _ _ _ (Store.loadedState_captured _) ..

/-- Settles O13: a reply is placed in an entry claimed for it, a command joins where there is room, and a host restart event
empties every queue. -/
theorem stepKeepsTheQueueLaws : Obligations.StepKeepsTheQueueLaws := by
  unfold Obligations.StepKeepsTheQueueLaws
  intro s t supply queues silence transmit link done
  obtain ⟨supply', queues', silence', transmit', link'⟩ :=
    queueLaws_law.step done ⟨supply, queues, silence, transmit, link⟩
  exact ⟨supply', queues', silence', transmit', link'⟩

end Sys2Proof.Machine
end

section
/-! SUPPORT. O11, the allocation law (R34) and the ranges of the zones' runtime state (Table 2-4). -/

namespace Sys2Proof.Machine

open Sys2Proof

/-! ### Stage 4 stays within the budget (R34, R35) -/

theorem demand_mono {f g i : Zone → Nat} (h : ∀ z, f z ≤ g z) : demand f i ≤ demand g i := by
  unfold demand
  gcongr <;> exact h _

theorem demand_mul (f i : Zone → Nat) (n : Nat) : demand (fun z => f z * n) i = demand f i * n := by
  unfold demand
  ring

/-- Scaled requests fit the budget. -/
theorem demand_scaled_le (request current : Zone → Nat) (b : Nat) :
    demand (fun z => request z * b / demand request current) current ≤ b := by
  rcases Nat.eq_zero_or_pos (demand request current) with none | some
  · have zero : demand (fun z => request z * b / demand request current) current = 0 := by
      simp only [none, Nat.div_zero]
      simp only [demand, Nat.zero_mul, Nat.add_zero]
    exact zero ▸ Nat.zero_le b
  · refine Nat.le_of_mul_le_mul_right ?_ some
    calc demand (fun z => request z * b / demand request current) current * demand request current
        = demand (fun z => request z * b / demand request current * demand request current) current := (demand_mul ..).symm
      _ ≤ demand (fun z => request z * b) current := demand_mono fun z => Nat.div_mul_le_self _ _
      _ = b * demand request current := by rw [demand_mul, Nat.mul_comm]

/-- Where the requests exceed the budget, none is scaled up. -/
theorem scaled_le {total b : Nat} (exceeds : b < total) (a : Nat) : a * b / total ≤ a :=
  Nat.div_le_of_le_mul (by rw [Nat.mul_comm a b]; exact Nat.mul_le_mul_right a exceeds.le)

theorem demand_step (f i : Zone → Nat) (z : Zone) :
    demand (fun y => if y = z then f z + 1 else f y) i = demand f i + i z := by
  fin_cases z <;> simp [demand] <;> ring

/-- What the leftover pass keeps: the budget is spent or left over, and no duty exceeds its request. -/
def Allocating (request current : Zone → Nat) (b : Nat) (acc : (Zone → Nat) × Nat) : Prop :=
  demand acc.1 current + acc.2 = b ∧ ∀ z, acc.1 z ≤ request z

theorem leftoverVisit_allocating {request current : Zone → Nat} {b : Nat} {acc : (Zone → Nat) × Nat}
    (h : Allocating request current b acc) (z : Zone) :
    Allocating request current b (leftoverVisit request current acc z) := by
  obtain ⟨spent, below⟩ := h
  unfold leftoverVisit
  split
  · next gains =>
    refine ⟨?_, fun y => ?_⟩
    · simp only [demand_step]
      omega
    · simp only
      split
      · next same => exact same ▸ gains.1
      · exact below y
  · exact ⟨spent, below⟩

theorem foldl_leftoverVisit_allocating {request current : Zone → Nat} {b : Nat} (order : List Zone)
    {acc : (Zone → Nat) × Nat} (h : Allocating request current b acc) :
    Allocating request current b (order.foldl (leftoverVisit request current) acc) :=
  List.foldlRecOn order _ h fun _ ha z _ => leftoverVisit_allocating ha z

/-- The allocation fits the budget, and grants no zone more than it asks. -/
theorem allocate_fits (budget : Nat) (order : List Zone) (request current : Zone → Nat) :
    demand (allocate budget order request current).1 current ≤ 64 * budget
    ∧ ∀ z, (allocate budget order request current).1 z ≤ request z := by
  simp only [allocate]
  split
  · next fits => exact ⟨fits, fun z => le_refl _⟩
  · next exceeds =>
    have start : Allocating request current (64 * budget)
        (fun z => request z * (64 * budget) / demand request current,
          64 * budget - demand (fun z => request z * (64 * budget) / demand request current) current) :=
      ⟨Nat.add_sub_cancel' (demand_scaled_le ..), fun z => scaled_le (Nat.not_le.1 exceeds) _⟩
    obtain ⟨spent, below⟩ := foldl_leftoverVisit_allocating order start
    exact ⟨Nat.le_of_add_right_le spent.le, below⟩

/-! ### The zones after the two computations -/

theorem stageRest_grant_le (r : ZoneRecord) (grant : Nat) (z : ZoneState) : (stageRest r grant z).grant ≤ grant := by
  unfold stageRest restCase
  split
  · exact Nat.min_le_left ..
  · split
    · split
      · exact Nat.min_le_left ..
      · exact le_refl _
    · exact le_refl _

theorem periodZone_grant_le (s : State) (z : Zone) : (periodZone s z).grant ≤ (periodAllocation s).1 z :=
  stageRest_grant_le ..

theorem immediateZone_grant_le (s : State) (z : Zone) : (immediateZone s z).grant ≤ (immediateAllocation s).1 z :=
  Nat.min_le_left ..

theorem allocationRequest_le (z : ZoneState) : allocationRequest z ≤ z.request := by
  unfold allocationRequest
  split
  · exact Nat.zero_le _
  · exact le_refl _

theorem allocationRequest_of_cut {z : ZoneState} (h : z.cut = true) : allocationRequest z = 0 := if_pos h

theorem periodZone_request (s : State) (z : Zone) :
    (periodZone s z).request = (stageOneToThree s z).request ∧ (periodZone s z).cut = (stageOneToThree s z).cut := by
  rw [periodZone, stageRest_eq]
  exact ⟨rfl, rfl⟩

theorem requestOf_le (working temp : Int) (band : Nat) : requestOf working temp band ≤ 64 := by
  unfold requestOf
  simp only
  split
  · exact Nat.zero_le _
  · split
    · exact le_refl _
    · next warm cold =>
      have small : (working - temp).toNat < band := by omega
      refine Nat.le_of_lt_succ (Nat.div_lt_of_lt_mul ?_)
      omega

/-- The allocation law of a table of zones. -/
def Allocated (records : Vector ZoneRecord 4) (zones : Vector ZoneState 4) (budget : Nat) : Prop :=
  demand (fun z => zones[z].grant) (fun z => records[z].current) ≤ 64 * budget
  ∧ ∀ z : Zone, zones[z].grant ≤ zones[z].request
    ∧ (records[z].enable = false ∨ zones[z].cut = true → zones[z].grant = 0)

theorem allocationLaw_iff (s : State) : AllocationLaw s ↔ Allocated s.heat.records s.heat.zones (budgetInForce s) := Iff.rfl

/-- Zones whose grants an allocation bounds obey the law, a disabled zone asking for nothing. -/
theorem allocated_of_le {records : Vector ZoneRecord 4} {zones : Vector ZoneState 4} {budget : Nat} {order : List Zone}
    {asked : Zone → Nat}
    (granted : ∀ z : Zone, zones[z].grant ≤ (allocate budget order asked fun z => records[z].current).1 z)
    (asks : ∀ z : Zone, asked z ≤ allocationRequest zones[z])
    (disabled : ∀ z : Zone, records[z].enable = false → zones[z].request = 0) : Allocated records zones budget := by
  obtain ⟨fits, below⟩ := allocate_fits budget order asked fun z => records[z].current
  have bounded (z : Zone) : zones[z].grant ≤ allocationRequest zones[z] := ((granted z).trans (below z)).trans (asks z)
  refine ⟨(demand_mono granted).trans fits, fun z => ⟨(bounded z).trans (allocationRequest_le _), fun off => ?_⟩⟩
  have nothing : allocationRequest zones[z] = 0 := by
    rcases off with disable | cut
    · exact Nat.le_zero.1 (disabled z disable ▸ allocationRequest_le _)
    · exact allocationRequest_of_cut cut
  exact Nat.le_zero.1 (nothing ▸ bounded z)

/-! ### The zones' ranges -/

/-- The runtime state of a zone within Table 2-4, but for its grant and output. -/
structure ZoneInRange (z : ZoneState) : Prop where
  request : z.request ≤ 64
  held : ∀ q, z.held = some q → q ≤ 64
  holdCount : z.holdCount ≤ 60
  onStreak : z.onStreak ≤ 255
  restCount : z.restCount ≤ 60

/-- A zone without a grant has its output off. -/
def OffWithoutGrant (z : ZoneState) : Prop := z.grant = 0 → z.output = false

/-- The zones are in their ranges, and a disabled one asks for nothing. -/
def ZonesLawful (records : Vector ZoneRecord 4) (zones : Vector ZoneState 4) : Prop :=
  ∀ z : Zone, ZoneInRange zones[z] ∧ OffWithoutGrant zones[z] ∧ (records[z].enable = false → zones[z].request = 0)

theorem zonesInRange_iff (s : State) : ZonesInRange s ↔ ZonesLawful s.heat.records s.heat.zones := by
  constructor
  · intro h z
    obtain ⟨request, held, hold, streak, rest, off, disabled⟩ := h z
    exact ⟨⟨request, held, hold, streak, rest⟩, off, disabled⟩
  · intro h z
    obtain ⟨⟨request, held, hold, streak, rest⟩, off, disabled⟩ := h z
    exact ⟨request, held, hold, streak, rest, off, disabled⟩

theorem inWindow_zero (z : Zone) (t : Nat) : inWindow z 0 t = false := by
  simp [inWindow, windowLength]

theorem ZoneRecord.ranges {r : ZoneRecord} (h : r.inRange = true) :
    r.holdPeriods ≤ 60 ∧ r.fallback ≤ 64 ∧ r.maxOn ≤ 255 ∧ r.restPeriods ≤ 60 := by
  simp only [ZoneRecord.inRange, Bool.and_eq_true, decide_eq_true_eq] at h
  omega

theorem stageRequest_inRange {r : ZoneRecord} (ranges : r.inRange = true) (w : Int) (reading : ReadingState × Option Int)
    {z : ZoneState} (h : ZoneInRange z) : ZoneInRange (stageRequest r w reading z) := by
  obtain ⟨request, held, hold, streak, rest⟩ := h
  obtain ⟨periods, fallback, -⟩ := ZoneRecord.ranges ranges
  unfold stageRequest
  split
  · exact ⟨requestOf_le .., fun q hq => Option.some.inj hq ▸ requestOf_le .., Nat.zero_le _, streak, rest⟩
  · split
    · next q holds =>
      split
      · next below => exact ⟨held q holds, held, below.trans_le periods, streak, rest⟩
      · exact ⟨fallback, held, hold, streak, rest⟩
    · exact ⟨fallback, held, hold, streak, rest⟩
  · exact ⟨fallback, held, hold, streak, rest⟩

theorem stageOneToThree_inRange {s : State} {z : Zone} (ranges : s.heat.records[z].inRange = true)
    (h : ZoneInRange s.heat.zones[z]) : ZoneInRange (stageOneToThree s z) := by
  have cutSet {x : ZoneState} (hx : ZoneInRange x) (b : Bool) : ZoneInRange { x with cut := b } := by
    obtain ⟨request, held, hold, streak, rest⟩ := hx
    exact ⟨request, held, hold, streak, rest⟩
  obtain ⟨request, held, hold, streak, rest⟩ := h
  simp only [stageOneToThree]
  refine cutSet ?_ _
  split
  · exact stageRequest_inRange ranges _ _ ⟨request, held, hold, streak, rest⟩
  · exact ⟨Nat.zero_le _, held, hold, streak, rest⟩

theorem stageOneToThree_disabled {s : State} {z : Zone} (disabled : s.heat.records[z].enable = false) :
    (stageOneToThree s z).request = 0 := by
  have unset : workingSetpoint s.heat.records[z] s.hpc.host s.hpc.suppress = none := by
    simp only [workingSetpoint, disabled, Bool.not_false, if_true]
  simp only [stageOneToThree, unset]

theorem stageRest_inRange {r : ZoneRecord} (ranges : r.inRange = true) (grant : Nat) {z : ZoneState} (h : ZoneInRange z) :
    ZoneInRange (stageRest r grant z) := by
  obtain ⟨request, held, hold, streak, rest⟩ := h
  obtain ⟨-, -, on, periods⟩ := ZoneRecord.ranges ranges
  have rested {n : Nat} (hn : n ≤ 60) : ZoneInRange (restCase r n grant z) := by
    refine ⟨request, held, hold, ?_, (Nat.sub_le _ _).trans hn⟩
    simp only [restCase]
    split
    · exact Nat.zero_le _
    · exact streak
  unfold stageRest
  split
  · exact rested rest
  · split
    · split
      · exact rested periods
      · exact ⟨request, held, hold, Nat.min_le_right .., rest⟩
    · exact ⟨request, held, hold, Nat.zero_le _, rest⟩

theorem periodZone_inRange {s : State} {z : Zone} (ranges : s.heat.records[z].inRange = true)
    (h : ZoneInRange s.heat.zones[z]) : ZoneInRange (periodZone s z) := by
  obtain ⟨request, held, hold, streak, rest⟩ :=
    stageRest_inRange ranges ((periodAllocation s).1 z) (stageOneToThree_inRange ranges h)
  exact ⟨request, held, hold, streak, rest⟩

theorem periodZone_off (s : State) (z : Zone) : OffWithoutGrant (periodZone s z) := by
  intro none
  have output : (periodZone s z).output = inWindow z (periodZone s z).grant (periodTime s) := rfl
  rw [output, none, inWindow_zero]

theorem immediateZone_off (s : State) (z : Zone) : OffWithoutGrant (immediateZone s z) := by
  intro none
  have output : (immediateZone s z).output
      = (s.heat.zones[z].output && inWindow z (immediateZone s z).grant (periodTime s)) := rfl
  rw [output, none, inWindow_zero, Bool.and_false]

/-! ### The computations keep the laws -/

/-- The allocator's two laws of a table of zones. -/
def HeatLawful (records : Vector ZoneRecord 4) (zones : Vector ZoneState 4) (budget : Nat) : Prop :=
  Allocated records zones budget ∧ ZonesLawful records zones

theorem periodComputation_lawful {s : State} (ranges : ∀ z : Zone, s.heat.records[z].inRange = true)
    (h : ZonesLawful s.heat.records s.heat.zones) :
    HeatLawful s.heat.records (periodComputation s).heat.zones (budgetInForce s) := by
  rw [periodComputation_heat]
  have disabled (z : Zone) (off : s.heat.records[z].enable = false) : (periodZone s z).request = 0 :=
    (periodZone_request s z).1.trans (stageOneToThree_disabled off)
  refine ⟨allocated_of_le (order := visitOrder s.heat.records)
    (asked := fun z => allocationRequest (stageOneToThree s z)) (fun z => ?_) (fun z => ?_) (fun z => ?_), fun z => ?_⟩
  · rw [quad_get]
    exact periodZone_grant_le s z
  · rw [quad_get, allocationRequest, allocationRequest, (periodZone_request s z).1, (periodZone_request s z).2]
  · rw [quad_get]
    exact disabled z
  · rw [quad_get]
    exact ⟨periodZone_inRange (ranges z) (h z).1, periodZone_off s z, disabled z⟩

theorem immediateRecompute_lawful {s : State} (h : ZonesLawful s.heat.records s.heat.zones) :
    HeatLawful s.heat.records (immediateRecompute s).heat.zones (budgetInForce s) := by
  rw [immediateRecompute_heat]
  refine ⟨allocated_of_le (order := visitOrder s.heat.records) (asked := fun z => allocationRequest (cutZone s z))
    (fun z => ?_) (fun z => ?_) (fun z => ?_), fun z => ?_⟩
  · rw [quad_get]
    exact immediateZone_grant_le s z
  · rw [quad_get]
    exact le_refl _
  · rw [quad_get]
    exact (h z).2.2
  · rw [quad_get]
    obtain ⟨⟨request, held, hold, streak, rest⟩, -, disabled⟩ := h z
    exact ⟨⟨request, held, hold, streak, rest⟩, immediateZone_off s z, disabled⟩

theorem Allocated.mono {records : Vector ZoneRecord 4} {zones : Vector ZoneState 4} {b c : Nat}
    (h : Allocated records zones b) (grows : b ≤ c) : Allocated records zones c :=
  ⟨h.1.trans (Nat.mul_le_mul_left 64 grows), h.2⟩

/-- A change of host state keeps the laws: a budget in force that falls is followed by a recomputation (R25). -/
theorem budgeted_lawful {s : State} (h : HeatLawful s.heat.records s.heat.zones (budgetInForce s)) (new : HostState) :
    HeatLawful s.heat.records (budgeted new s).zones (s.heat.budget.inForce new) := by
  unfold budgeted
  split
  · exact immediateRecompute_lawful (s := { s with hpc := { s.hpc with host := new } }) h.2
  · next grows => exact ⟨h.1.mono (Nat.not_lt.1 grows), h.2⟩

theorem applyLoadBudget_lawful {s : State} (h : HeatLawful s.heat.records s.heat.zones (budgetInForce s)) (b : BudgetRecord) :
    HeatLawful s.heat.records (applyLoadBudget b s).1.heat.zones (b.inForce s.hpc.host) := by
  simp only [applyLoadBudget]
  split
  · exact immediateRecompute_lawful (s := { s with heat.budget := b }) h.2
  · next grows => exact ⟨h.1.mono (Nat.not_lt.1 grows), h.2⟩

end Sys2Proof.Machine
end

section
/-! SUPPORT. O11: every move keeps the allocation law and the zones' ranges. -/

namespace Sys2Proof.Machine

open Sys2Proof

/-- The allocator's two laws, at a state. -/
def HeatLaw (s : State) : Prop := HeatLawful s.heat.records s.heat.zones (budgetInForce s)

theorem heatLaw_iff (s : State) : HeatLaw s ↔ AllocationLaw s ∧ ZonesInRange s :=
  and_congr Iff.rfl (zonesInRange_iff s).symm

/-! ### A cut demand is no concern of the laws -/

theorem changeLevel_zone (f : Nat → Nat) (a : LevelAction) (s : State) (z : Zone) :
    (changeLevel f a s).heat.zones[z]
      = { s.heat.zones[z] with cutDemand := (changeLevel f a s).heat.zones[z].cutDemand } := by
  cases a with
  | none | forceOn _ | forceOff _ => rfl
  | cutZone y =>
    simp only [changeLevel, vset_get]
    split
    · next same => rw [same]
    · rfl

theorem HeatLawful.of_cutDemand {records : Vector ZoneRecord 4} {zones zones' : Vector ZoneState 4} {budget : Nat}
    (h : HeatLawful records zones budget) (n : Zone → Nat)
    (same : ∀ z : Zone, zones'[z] = { zones[z] with cutDemand := n z }) : HeatLawful records zones' budget := by
  obtain ⟨⟨fits, granted⟩, ranges⟩ := h
  refine ⟨⟨?_, fun z => ?_⟩, fun z => ?_⟩
  · simp only [same]
    exact fits
  · rw [same z]
    exact granted z
  · rw [same z]
    obtain ⟨⟨request, held, hold, streak, rest⟩, off, disabled⟩ := ranges z
    exact ⟨⟨request, held, hold, streak, rest⟩, off, disabled⟩

theorem HeatLaw.changeLevel {s : State} (h : HeatLaw s) (f : Nat → Nat) (a : LevelAction) : HeatLaw (changeLevel f a s) := by
  have zones := HeatLawful.of_cutDemand h _ (changeLevel_zone f a s)
  rw [changeLevel_eq] at zones ⊢
  exact zones

theorem HeatLaw.releaseSlot {s : State} (h : HeatLaw s) (i : Slot) : HeatLaw (releaseSlot i s) := by
  unfold Machine.releaseSlot
  split
  · split
    · exact h.changeLevel ..
    · exact h
  · exact h

/-! ### A zone loaded, an output driven -/

theorem demand_le_of_mul_le {f g i j : Zone → Nat} (h : ∀ z, f z * i z ≤ g z * j z) : demand f i ≤ demand g j := by
  unfold demand
  exact Nat.add_le_add (Nat.add_le_add (Nat.add_le_add (h 0) (h 1)) (h 2)) (h 3)

theorem reloadedZone_cleared (old new : ZoneRecord) (z : ZoneState) :
    (reloadedZone old new z).grant = 0 ∧ (reloadedZone old new z).request = 0 ∧ (reloadedZone old new z).output = false := by
  unfold reloadedZone
  simp only
  split
  · exact ⟨rfl, rfl, rfl⟩
  · exact ⟨rfl, rfl, rfl⟩

theorem reloadedZone_inRange (old new : ZoneRecord) {z : ZoneState} (h : ZoneInRange z) :
    ZoneInRange (reloadedZone old new z) := by
  obtain ⟨-, held, hold, -, -⟩ := h
  unfold reloadedZone
  simp only
  split
  · exact ⟨Nat.zero_le _, held, hold, Nat.zero_le _, Nat.zero_le _⟩
  · exact ⟨Nat.zero_le _, fun q hq => absurd hq.symm (Option.some_ne_none q), Nat.zero_le _, Nat.zero_le _, Nat.zero_le _⟩

theorem heatLawful_zone {records : Vector ZoneRecord 4} {zones : Vector ZoneState 4} {budget : Nat}
    (h : HeatLawful records zones budget) (z : Zone) (r : ZoneRecord) :
    HeatLawful (vset records z r) (vset zones z (reloadedZone records[z] r zones[z])) budget := by
  obtain ⟨⟨fits, granted⟩, ranges⟩ := h
  obtain ⟨grant, request, output⟩ := reloadedZone_cleared records[z] r zones[z]
  refine ⟨⟨le_trans (demand_le_of_mul_le fun y => ?_) fits, fun y => ?_⟩, fun y => ?_⟩
  · simp only [vset_get]
    split
    · rw [grant, Nat.zero_mul]
      exact Nat.zero_le _
    · exact le_refl _
  · simp only [vset_get]
    split
    · rw [grant]
      exact ⟨Nat.zero_le _, fun _ => rfl⟩
    · exact granted y
  · simp only [vset_get]
    split
    · exact ⟨reloadedZone_inRange _ _ (ranges z).1, fun _ => output, fun _ => request⟩
    · exact ranges y

theorem heatLawful_drive {records : Vector ZoneRecord 4} {zones : Vector ZoneState 4} {budget : Nat}
    (h : HeatLawful records zones budget) (z : Zone) (t : Nat) :
    HeatLawful records (vset zones z { zones[z] with output := inWindow z zones[z].grant t }) budget := by
  obtain ⟨⟨fits, granted⟩, ranges⟩ := h
  have zone (y : Zone) : (vset zones z { zones[z] with output := inWindow z zones[z].grant t })[y]
      = { zones[y] with output := if z = y then inWindow z zones[z].grant t else zones[y].output } := by
    rw [vset_get]
    split
    · next same => rw [same]
    · rfl
  refine ⟨⟨?_, fun y => ?_⟩, fun y => ?_⟩
  · simp only [zone]
    exact fits
  · rw [zone]
    exact granted y
  · rw [zone]
    obtain ⟨⟨request, held, hold, streak, rest⟩, off, disabled⟩ := ranges y
    refine ⟨⟨request, held, hold, streak, rest⟩, fun none => ?_, disabled⟩
    simp only at none ⊢
    split
    · next same => rw [same, none, inWindow_zero]
    · exact off none

/-! ### The law -/

theorem HeatLaw.of_eq {s t : State} (h : HeatLaw s) (heat : t.heat = s.heat) (host : t.hpc.host = s.hpc.host) :
    HeatLaw t := by
  rw [HeatLaw, budgetInForce, heat, host]
  exact h

theorem HeatLaw.moveHost {s : State} (h : HeatLaw s) (new : HostState) : HeatLaw (moveHost new s) := by
  have lawful := budgeted_lawful h new
  rw [HeatLaw, budgetInForce, moveHost_heat, moveHost_host]
  rw [budgeted_eq] at lawful ⊢
  exact lawful

theorem heatLaw_move {s t : State} (m : Move s t) (ranges : TablesInRange s) (h : HeatLaw s) : HeatLaw t := by
  cases m with
  | quiet same => exact of_same_core (P := HeatLaw) (fun _ => Iff.rfl) same h
  | transmit => rw [startTransmit_eq]; exact h
  | zone _ => exact heatLawful_zone h _ _
  | budget =>
    have lawful := applyLoadBudget_lawful h
    rw [HeatLaw, applyLoadBudget_eq]
    exact lawful _
  | period =>
    have lawful := periodComputation_lawful ranges.1.2.2.2.2.1 h.2
    rw [periodComputation_heat] at lawful ⊢
    exact lawful
  | drive z => exact heatLawful_drive h z _
  | trip | untrip =>
    refine HeatLaw.changeLevel ?_ _ _
    exact h.of_eq rfl rfl
  | refill => exact (h.releaseSlot _).of_eq rfl rfl
  | resetRule i => exact (h.releaseSlot i).of_eq rfl rfl
  | host => exact h.moveHost _
  | settled | boot | restart | off | drain | standby =>
    refine HeatLaw.moveHost ?_ _
    exact h
  | count | latch | forget | ignore | select | resetRecords | notice | noticeSent | replySent | flush | answered | abandoned
  | drained | link | stored | storedReply | sequence | ladder | channel | poll | window | keypad | keymapEntry
  | keymapTimeout | stack | keys | supplied | railOn | railsGoOff | railReleased | settleStopped | requested
  | attempted | steady | unlisted | listed | logged => exact h

theorem heatLaw_fresh (power : Power) (image : Image) (store : Store) (loaded : ImageState) (pins : Vector Bool 3)
    (choice : Nat) (pending : List Instr) : HeatLaw (State.fresh power image store loaded pins choice pending) := by
  have zone (z : Zone) : (State.fresh power image store loaded pins choice pending).heat.zones[z] = ZoneState.initial := by
    simp only [State.fresh, Heat.initial, quad_get]
  refine ⟨⟨?_, fun z => ?_⟩, fun z => ?_⟩
  · simp only [zone]
    simp only [demand, ZoneState.initial, Nat.zero_mul]
    exact Nat.zero_le _
  · rw [zone]
    exact ⟨Nat.zero_le _, fun _ => rfl⟩
  · rw [zone]
    refine ⟨⟨Nat.zero_le _, fun q hq => absurd hq.symm (Option.some_ne_none q), Nat.zero_le _, Nat.zero_le _,
      Nat.zero_le _⟩, fun _ => rfl, fun _ => rfl⟩

theorem heatLaw_law : Law fun s => TablesInRange s ∧ HeatLaw s where
  seen _ := Iff.rfl
  move m h := ⟨tablesInRange_move m h.1, heatLaw_move m h.1 h.2⟩
  claim c h := by
    refine ⟨tablesInRange_law.claim c h.1, ?_⟩
    cases c with
    | reply | store | join => exact h.2
  lost s h := ⟨tablesInRange_law.lost s h.1, heatLaw_fresh ..⟩
  applied s h := ⟨tablesInRange_law.applied s h.1, heatLaw_fresh ..⟩

/-- Settles O11: an allocation fits 64 times the budget in force and grants no more than is asked, and a budget in force that
falls is followed by a recomputation. -/
theorem stepKeepsTheAllocationLaw : Obligations.StepKeepsTheAllocationLaw := by
  unfold Obligations.StepKeepsTheAllocationLaw
  intro s t ranges zones allocation done
  exact (heatLaw_iff t).1 (heatLaw_law.step done ⟨ranges, (heatLaw_iff s).2 ⟨allocation, zones⟩⟩).2

end Sys2Proof.Machine
end

section
/-! SUPPORT. O1 to O4 and O6: the step, reset and its laws, the frames written out. -/

namespace Sys2Proof.Machine

open Sys2Proof

/-! ### The step on a waiting command (O1) -/

/-- Settles O1: the step's first branch. -/
theorem stepTakesTheFrontCommand : Obligations.StepTakesTheFrontCommand := by
  unfold Obligations.StepTakesTheFrontCommand
  intro c rest s waiting
  rw [step, waiting]

/-! ### Reset (O3, O4) -/

theorem reset_eq : State.reset = State.fresh .loading Image.factory .empty .factory #v[false, false, false] 0 [] := rfl

/-- Settles O3: reset is a power-on with the factory tables. -/
theorem resetHoldsThePowerOnValues : Obligations.ResetHoldsThePowerOnValues := by
  unfold Obligations.ResetHoldsThePowerOnValues
  have zones (z : Zone) : State.reset.heat.zones[z] = ZoneState.initial := by
    rw [reset_eq, State.fresh, Heat.initial, quad_get]
  have rules (i : Slot) : State.reset.acts.rules[i] = RuleState.clear ∧ State.reset.acts.entries[i] = none :=
    ⟨replicate_get _ i, replicate_get _ i⟩
  have forces (o : Fin 16) : State.reset.outs.forceOn[o] = 0 ∧ State.reset.outs.forceOff[o] = 0 :=
    ⟨replicate_get _ o, replicate_get _ o⟩
  have channels (c : Channel) : State.reset.probe.chans[c] = ChannelState.initial := replicate_get _ c
  have scans (p : Position) : State.reset.pad.positions[p] = PadPosition.initial := replicate_get _ p
  have keys (p : Position) : State.reset.keymap.positions[p] = KeyPosition.initial := replicate_get _ p
  refine ⟨rfl, rfl, rfl, rfl, rfl, rfl, rfl, rfl, rfl, rfl, rfl, rfl, rfl, rfl, rfl, rfl, rfl, rfl, rfl, rfl, rfl, rfl, rfl,
    rfl, rfl, rfl, rfl, rfl, rfl, rfl, rfl, zones, rfl, channels, rfl, rules, rfl, rfl, scans, rfl, rfl, keys, rfl, rfl, rfl,
    rfl, rfl, rfl, rfl, rfl, rfl, rfl, forces, rfl, rfl, rfl, rfl, rfl⟩

/-- Settles O4: a part just powered obeys every law, and the factory tables are in range. -/
theorem resetIsLawful : Obligations.ResetIsLawful := by
  unfold Obligations.ResetIsLawful
  rw [reset_eq]
  obtain ⟨allocation, zones⟩ := (heatLaw_iff _).1 (heatLaw_fresh ..)
  obtain ⟨-, lines, pendingRestart⟩ := hostLaws_fresh ..
  obtain ⟨supply, queues, silence, transmit, link⟩ := queueLaws_fresh _ _ _ (loaded := .factory) rfl ..
  obtain ⟨errors, counters⟩ := recordsLaw_fresh ..
  have empty (i : Image) (hi : Store.empty.held = some i) : i.Valid := absurd hi.symm (Option.some_ne_none i)
  exact {
    tables := tablesInRange_fresh Image.valid_factory empty rfl ..
    allocation, zones, supply, lines, pendingRestart, queues, silence, transmit, link, errors, counters
    ladder := ladderLaw_fresh ..
    counts := (countLaw_iff _).2 (ruleCounts_fresh ..)
    debounce := fresh_law (by decide) ..
    keymap := keymapLaw_fresh .. }

/-! ### Frames written out (O6) -/

/-- Settles O6: each frame is read by evaluation. -/
theorem writtenFramesAreRead : Obligations.WrittenFramesAreRead := by
  unfold Obligations.WrittenFramesAreRead
  decide +kernel

end Sys2Proof.Machine
end

section
/-! SUPPORT. O2: the idle step, and the timed events that are due. -/

namespace Sys2Proof.Machine

open Sys2Proof

/-! ### When an event is due -/

@[simp] theorem mem_whenDue {due : Bool} {i j : Instr} : i ∈ whenDue due j ↔ i = j ∧ due = true := by
  cases due <;> simp [whenDue]

theorem expired_iff (s : State) (t : Option Timer) :
    expired s t = true ↔ ∃ x, t = some x ∧ x.start + x.span ≤ s.now := by
  cases t with
  | none => simp [expired]
  | some x =>
    rw [expired, decide_eq_true_iff, Timer.deadline]
    simp

theorem reached_iff (s : State) (m : Option Nat) : reached s m = true ↔ ∃ x, m = some x ∧ x ≤ s.now := by
  cases m <;> simp [reached]

theorem railStepDue_iff (s : State) (phase : RailPhase) :
    railStepDue s phase = true
      ↔ s.hpc.host = .rails ∧ ∃ st, s.hpc.railStep = some st ∧ st.phase = phase ∧ st.timer.start + st.timer.span ≤ s.now := by
  cases h : s.hpc.railStep <;> simp [railStepDue, h, expired_iff, and_assoc]

theorem channelDue_iff (s : State) (c : Channel) :
    channelDue s c = true ↔ (s.probe.chans[c].poll = .waiting ∨ s.probe.chans[c].poll = .inFlight)
      ∧ ∃ x, s.probe.chans[c].due = some x ∧ x ≤ s.now := by
  simp only [← reached_iff]
  unfold channelDue
  cases s.probe.chans[c].poll <;> simp

theorem fieldTimeoutDue_iff (s : State) :
    fieldTimeoutDue s = true ↔ ∃ l, s.relay.link = some l ∧ ∃ x, l.timeout = some x ∧ x.start + x.span ≤ s.now := by
  cases h : s.relay.link <;> simp [fieldTimeoutDue, h, expired_iff]

theorem storeDue_iff (s : State) :
    storeDue s = true ↔ ∃ image claim bound, s.imageState = .storing image claim bound ∧ bound ≤ s.now := by
  cases h : s.imageState <;> simp [storeDue, h]

theorem edgeReached_iff (s : State) (z : Zone) :
    edgeReached s z = true ↔ ∃ p, s.heat.periodStart = some p
      ∧ s.heat.zones[z].output ≠ inWindow z s.heat.zones[z].grant (min (s.now - p) 7999) := by
  cases h : s.heat.periodStart with
  | none => simp [edgeReached, h]
  | some p => simp [edgeReached, periodTime, h]; rfl

theorem periodDue_iff (s : State) :
    reached s (s.heat.periodStart.map (· + Config.controlPeriod)) = true
      ↔ ∃ p, s.heat.periodStart = some p ∧ p + ms 1000 ≤ s.now := by
  rw [reached_iff]
  cases s.heat.periodStart <;> simp [Config.controlPeriod, ms]

theorem armDue_iff (s : State) (p : Position) :
    expired s ((s.keymap.positions[p]).arm.map Arm.timer) = true
      ↔ ∃ a, s.keymap.positions[p].arm = some a ∧ a.timer.start + a.timer.span ≤ s.now := by
  rw [expired_iff]
  cases s.keymap.positions[p].arm <;> simp

theorem keysReported_iff (h : HostState) : h.keysReported = true ↔ h = .run ∨ h = .warn := by
  cases h <;> simp [HostState.keysReported]

/-! ### The timed events (log 2) -/

theorem mem_dueHost (s : State) (i : Instr) :
    i ∈ dueHost s ↔
      (i = .preheatTimerExpiry ∧ (s.hpc.host = .preheat ∨ s.hpc.host = .soak) ∧ expired s s.hpc.preheatTimer = true)
      ∨ (i = .soakTimerExpiry ∧ s.hpc.host = .soak ∧ expired s s.hpc.soakTimer = true)
      ∨ (i = .pgTimeoutExpiry ∧ railStepDue s .waitPg = true)
      ∨ (i = .settleExpiry ∧ railStepDue s .settle = true)
      ∨ (i = .drainTimerExpiry ∧ s.hpc.host = .drain ∧ expired s s.hpc.drainTimer = true)
      ∨ (i = .offSettleExpiry ∧ s.hpc.host = .drain ∧ expired s s.hpc.offSettleTimer = true)
      ∨ (i = .bootWindowExpiry ∧ s.hpc.host = .boot ∧ expired s s.hpc.bootTimer = true)
      ∨ (i = .heartbeatTimerExpiry ∧ s.hpc.host = .run ∧ expired s s.hpc.heartbeatTimer = true)
      ∨ (i = .graceExpiry ∧ s.hpc.host = .warn ∧ expired s s.hpc.graceTimer = true)
      ∨ (i = .stableTimeReached ∧ (s.hpc.host = .run ∨ s.hpc.host = .warn) ∧ expired s s.hpc.stableTimer = true)
      ∨ (i = .resetPulseExpiry ∧ s.hpc.host = .restart ∧ expired s s.hpc.pulseTimer = true)
      ∨ (i = .powerOffExpiry ∧ s.hpc.host = .powerCycle ∧ expired s s.hpc.powerOffTimer = true)
      ∨ (i = .lockoutRetryExpiry ∧ s.hpc.host = .lockout ∧ expired s s.hpc.retryTimer = true) := by
  simp only [dueHost, List.mem_append, mem_whenDue, Bool.and_eq_true, Bool.or_eq_true, decide_eq_true_eq, keysReported_iff,
    or_assoc]

theorem mem_map_filter {α : Type} {l : List α} {p : α → Bool} {f : α → Instr} (all : ∀ a, a ∈ l) (i : Instr) :
    i ∈ (l.filter p).map f ↔ ∃ a, i = f a ∧ p a = true := by
  simp only [List.mem_map, List.mem_filter, all, true_and]
  exact exists_congr fun a => ⟨fun ⟨h, e⟩ => ⟨e.symm, h⟩, fun ⟨e, h⟩ => ⟨h, e.symm⟩⟩

theorem mem_allZones (z : Zone) : z ∈ allZones := by fin_cases z <;> simp [allZones]

theorem mem_allPositions (p : Position) : p ∈ allPositions := List.mem_finRange p

theorem mem_timedEvents (s : State) (i : Instr) :
    i ∈ timedEvents s ↔
      i ∈ dueHost s
      ∨ (i = .controlPeriodStart ∧ reached s (s.heat.periodStart.map (· + Config.controlPeriod)) = true)
      ∨ (∃ z : Zone, i = .driveWindowEdge z ∧ edgeReached s z = true)
      ∨ (∃ c : Channel, i = .dueTimeReached c ∧ channelDue s c = true)
      ∨ (∃ first : Bool, i = .fieldTimeoutExpiry first ∧ fieldTimeoutDue s = true)
      ∨ (i = .scanStart ∧ s.pad.scanning = false ∧ reached s s.pad.nextScan = true)
      ∨ (i = .layerTick ∧ reached s s.keymap.nextTick = true)
      ∨ (∃ p : Position, i = .armDelayExpiry p ∧ expired s ((s.keymap.positions[p]).arm.map Arm.timer) = true)
      ∨ (i = .storeComplete ∧ storeDue s = true) := by
  have either (P : Bool → Prop) : (P true ∨ P false) ↔ ∃ b, P b := by
    rw [Bool.exists_bool, or_comm]
  simp only [timedEvents, List.mem_append, mem_whenDue, mem_map_filter mem_allZones, mem_map_filter mem_allPositions,
    mem_map_filter List.mem_finRange, Bool.and_eq_true, Bool.not_eq_true', or_assoc]
  rw [← either fun first => i = .fieldTimeoutExpiry first ∧ fieldTimeoutDue s = true, or_assoc]

/-! ### The idle step (O2) -/

theorem step_idle {s : State} (h : s.pending = []) : step s = .next (idle s) := by rw [step, h]

theorem idle_supplied {s : State} (h : s.power ≠ .off) : idle s = idleSupplied s := if_neg h

/-- An event that is due is one of those offered. -/
theorem raised_mem {l : List Instr} (h : l ≠ []) (n : Nat) {d : Instr} : l.getD (n % l.length) d ∈ l := by
  have positive := List.length_pos_iff.2 h
  have below := Nat.mod_lt n positive
  rw [List.getD_eq_getElem _ _ below]
  exact List.getElem_mem below

/-- Settles O2: the idle step's branches, and each event offered with its condition. -/
theorem idleStepAdvancesTimeOrRaisesDueEvent : Obligations.IdleStepAdvancesTimeOrRaisesDueEvent := by
  unfold Obligations.IdleStepAdvancesTimeOrRaisesDueEvent
  intro s waiting
  have report : relayReportsEmpty s = true ↔ s.hpc.host = .drain ∧ s.hpc.railOff = false ∧ s.relay.queue = [] := by
    rw [← not_iff_not, Bool.not_eq_true, ← calm_iff, Calm]
  refine ⟨fun off => ?_, fun on stands => ?_, fun on none quiet => ?_, fun on none busy => ?_, fun i => ?_⟩
  · rw [step_idle waiting, idle, if_pos off]
  · rw [step_idle waiting, idle_supplied on, idleSupplied, if_pos (report.2 stands)]
    rfl
  · rw [step_idle waiting, idle_supplied on, idleSupplied, if_neg fun stands => none (report.1 stands), quiet]
    rfl
  · obtain ⟨i, rest, due⟩ := List.exists_cons_of_ne_nil busy
    refine ⟨_, due ▸ raised_mem (List.cons_ne_nil i rest) (Config.nextDue s.choice) (d := i), ?_⟩
    rw [step_idle waiting, idle_supplied on, idleSupplied, if_neg fun stands => none (report.1 stands), due]
    rfl
  · rw [mem_timedEvents, mem_dueHost]
    simp only [periodDue_iff, armDue_iff]
    simp only [expired_iff, reached_iff, railStepDue_iff, channelDue_iff, fieldTimeoutDue_iff, storeDue_iff, edgeReached_iff,
      or_assoc]

end Sys2Proof.Machine
end

section
/-! SUPPORT. The P-port frame: what the receiver takes from the bytes of a frame, and which frames are malformed (O7, O10). -/

namespace Sys2Proof.Machine
open Sys2Proof

theorem word16_wordBytes (w : Word) : word16 (wordBytes w) 0 = w := by
  apply BitVec.eq_of_toNat_eq
  simp only [word16, wordBytes, u16, u8, byte2, List.getD_cons_zero, List.getD_cons_succ, BitVec.toNat_ofNat]
  omega

theorem word16_append_wordBytes (l : List Byte) (w : Word) : word16 (l ++ wordBytes w) l.length = w := by
  have hread : ∀ i, (l ++ wordBytes w).getD (l.length + i) 0 = (wordBytes w).getD i 0 := fun i => by
    rw [List.getD_eq_getElem?_getD, List.getD_eq_getElem?_getD, List.getElem?_append_right (by omega),
      Nat.add_sub_cancel_left]
  have h0 := hread 0
  have h1 := hread 1
  rw [Nat.add_zero] at h0
  calc word16 (l ++ wordBytes w) l.length = word16 (wordBytes w) 0 := by simp only [word16, u16, u8, h0, h1]
    _ = w := word16_wordBytes w

/-- The bytes a check is taken over: header, op code, address, length byte and payload (Table 10-1). -/
def frameBody (h c a1 a0 : Byte) (p : List Byte) : List Byte := [h, c, a1, a0] ++ byte1 p.length ++ p

/-- A complete frame is taken by its check (R161). -/
theorem frameCommand_whole (order : BitVec 64) (h c a1 a0 : Byte) (p : List Byte) (k : Word) (hp : p.length ≤ 48) :
    frameCommand order (0xA5 :: (frameBody h c a1 a0 p ++ wordBytes k)) =
      if crc16 (frameBody h c a1 a0 p) ≠ k then some .hostCheckFrame
      else some (checkedCommand order h c (word16 [a1, a0] 0) p) := by
  have hn : u8 (frameBody h c a1 a0 p ++ wordBytes k) 4 = p.length := by
    simp [u8, frameBody, byte1]; omega
  have hlen : (frameBody h c a1 a0 p).length = 5 + p.length := by simp [frameBody, byte1]; omega
  have hcheck : word16 (frameBody h c a1 a0 p ++ wordBytes k) (5 + p.length) = k := by
    rw [← hlen, word16_append_wordBytes]
  have hbody : (frameBody h c a1 a0 p ++ wordBytes k).take (5 + p.length) = frameBody h c a1 a0 p := by
    rw [← hlen, List.take_left]
  have hpayload : ((frameBody h c a1 a0 p ++ wordBytes k).drop 5).take p.length = p := by simp [frameBody, byte1]
  have hlong : ¬ (frameBody h c a1 a0 p ++ wordBytes k).length < 7 + p.length := by
    simp [hlen, wordBytes, byte2]; omega
  have hhead : ¬ (frameBody h c a1 a0 p ++ wordBytes k).length < 5 := by simp [hlen]; omega
  simp only [frameCommand, hn, hcheck, hbody, hpayload, if_neg hlong, if_neg hhead, Config.maxPayload,
    if_neg (Nat.not_lt.mpr hp)]
  rfl

/-- A frame whose check is right spells what `checkedCommand` makes of its fields. -/
theorem frameCommand_withCheck (order : BitVec 64) (h c a1 a0 : Byte) (p : List Byte) (hp : p.length ≤ 48) :
    frameCommand order (0xA5 :: withCheck (frameBody h c a1 a0 p)) =
      some (checkedCommand order h c (word16 [a1, a0] 0) p) := by
  rw [withCheck, frameCommand_whole order h c a1 a0 p _ hp, if_neg (not_not_intro rfl)]

/-- The op codes of Table 10-3 but READ and WRITE, each with the payload lengths the table gives it. -/
def opLengths : List (Nat × Nat) :=
  [(0x10, 1), (0x11, 1), (0x12, 1), (0x13, 24), (0x14, 19), (0x20, 25), (0x21, 8), (0x22, 8), (0x23, 7), (0x24, 17),
    (0x25, 2), (0x26, 0), (0x28, 9), (0x30, 7), (0x31, 9), (0x31, 3), (0x32, 0), (0x38, 2), (0x40, 3), (0x41, 5),
    (0x48, 2), (0x49, 2), (0x4A, 2), (0x50, 2), (0x50, 3), (0x50, 4), (0x58, 1), (0x5F, 0)]

/-- The selectors of Table 10-8, each with the number of its arguments. -/
def selectorArguments : List (Nat × Nat) :=
  [(0x01, 0), (0x02, 1), (0x03, 0), (0x04, 1), (0x05, 0), (0x06, 1), (0x07, 0), (0x08, 2), (0x09, 0), (0x0A, 0),
    (0x0B, 0), (0x0C, 0), (0x0D, 0)]

theorem statusCommand_none {tag : Tag} {s k : Byte} {rest : List Byte}
    (h : (s.toNat, rest.length) ∉ selectorArguments) : statusCommand tag (s :: k :: rest) = none := by
  match rest with
  | [] => simp only [statusCommand]; split <;> simp_all [selectorArguments]
  | [x] => simp only [statusCommand]; split <;> simp_all [selectorArguments]
  | [l, x] => simp only [statusCommand]; split <;> simp_all [selectorArguments]
  | _ :: _ :: _ :: _ => rfl

theorem statusCommand_length {tag : Tag} {p : List Byte} (h : p.length ≠ 2 ∧ p.length ≠ 3 ∧ p.length ≠ 4) :
    statusCommand tag p = none := by
  obtain ⟨h2, h3, h4⟩ := h
  unfold statusCommand
  split
  · simp at h2
  · simp at h3
  · simp at h4
  · rfl

/-- An op code that Table 10-3 does not have spells no operation. -/
theorem supervisorCommand_unlisted {order : BitVec 64} {op : Nat} {tag : Tag} {p : List Byte}
    (h : op ∉ opLengths.map Prod.fst) : supervisorCommand order op tag p = none := by
  simp only [opLengths, List.map_cons, List.map_nil, List.mem_cons, List.not_mem_nil, or_false, not_or] at h
  unfold supervisorCommand supervisorCommand.match_1
  simp only [h, dite_false]

/-- An op code of Table 10-3 with a payload of another length spells no operation. -/
theorem supervisorCommand_length {order : BitVec 64} {op : Nat} {tag : Tag} {p : List Byte}
    (hop : op ∈ [0x10, 0x11, 0x12, 0x13, 0x14, 0x20, 0x21, 0x22, 0x23, 0x24, 0x25, 0x26, 0x28, 0x30, 0x31, 0x32, 0x38, 0x40, 0x41, 0x48, 0x49, 0x4A, 0x50, 0x58, 0x5F])
    (h : (op, p.length) ∉ opLengths) : supervisorCommand order op tag p = none := by
  simp only [List.mem_cons, List.not_mem_nil, or_false] at hop
  obtain rfl | rfl | rfl | rfl | rfl | rfl | rfl | rfl | rfl | rfl | rfl | rfl | rfl | rfl | rfl | rfl | rfl | rfl | rfl | rfl | rfl | rfl | rfl | rfl | rfl := hop
  · exact match p, h with | [], _ => rfl | [_], h => (h (by simp [opLengths])).elim | _ :: _ :: _, _ => rfl
  · exact match p, h with | [], _ => rfl | [_], h => (h (by simp [opLengths])).elim | _ :: _ :: _, _ => rfl
  · exact match p, h with | [], _ => rfl | [_], h => (h (by simp [opLengths])).elim | _ :: _ :: _, _ => rfl
  · exact if_neg fun hp => h (by simp [opLengths, hp])
  · exact if_neg fun hp => h (by simp [opLengths, hp])
  · exact if_neg fun hp => h (by simp [opLengths, hp])
  · exact if_neg fun hp => h (by simp [opLengths, hp])
  · exact if_neg fun hp => h (by simp [opLengths, hp])
  · exact if_neg fun hp => h (by simp [opLengths, hp])
  · exact if_neg fun hp => h (by simp [opLengths, hp])
  · exact match p, h with | [], _ => rfl | [_], _ => rfl | [_, _], h => (h (by simp [opLengths])).elim | _ :: _ :: _ :: _, _ => rfl
  · exact match p, h with | [], h => (h (by simp [opLengths])).elim | _ :: _, _ => rfl
  · exact if_neg fun hp => h (by simp [opLengths, hp])
  · exact if_neg fun hp => h (by simp [opLengths, hp])
  · exact (if_neg fun hp => h (by simp [opLengths, hp])).trans (if_neg fun hp => h (by simp [opLengths, hp]))
  · exact match p, h with | [], h => (h (by simp [opLengths])).elim | _ :: _, _ => rfl
  · exact match p, h with | [], _ => rfl | [_], _ => rfl | [_, _], h => (h (by simp [opLengths])).elim | _ :: _ :: _ :: _, _ => rfl
  · exact match p, h with | [], _ => rfl | [_], _ => rfl | [_, _], _ => rfl | [_, _, _], h => (h (by simp [opLengths])).elim | _ :: _ :: _ :: _ :: _, _ => rfl
  · exact match p, h with | [], _ => rfl | [_], _ => rfl | [_, _], _ => rfl | [_, _, _], _ => rfl | [_, _, _, _], _ => rfl | [_, _, _, _, _], h => (h (by simp [opLengths])).elim | _ :: _ :: _ :: _ :: _ :: _ :: _, _ => rfl
  · exact match p, h with | [], _ => rfl | [_], _ => rfl | [_, _], h => (h (by simp [opLengths])).elim | _ :: _ :: _ :: _, _ => rfl
  · exact match p, h with | [], _ => rfl | [_], _ => rfl | [_, _], h => (h (by simp [opLengths])).elim | _ :: _ :: _ :: _, _ => rfl
  · exact match p, h with | [], _ => rfl | [_], _ => rfl | [_, _], h => (h (by simp [opLengths])).elim | _ :: _ :: _ :: _, _ => rfl
  · exact statusCommand_length (by simpa [opLengths] using h)
  · exact match p, h with | [], _ => rfl | [_], h => (h (by simp [opLengths])).elim | _ :: _ :: _, _ => rfl
  · exact match p, h with | [], h => (h (by simp [opLengths])).elim | _ :: _, _ => rfl

theorem supervisorCommand_none {order : BitVec 64} {op : Nat} {tag : Tag} {p : List Byte}
    (h : (op, p.length) ∉ opLengths) : supervisorCommand order op tag p = none := by
  by_cases hop : op ∈ opLengths.map Prod.fst
  · exact supervisorCommand_length (by simpa [opLengths] using hop) h
  · exact supervisorCommand_unlisted hop

theorem checkedCommand_refused {order : BitVec 64} {h c : Byte} {a : Addr} {p : List Byte}
    (hread : c ≠ 0x01) (hwrite : c ≠ 0x02)
    (hnone : supervisorCommand order c.toNat (Fin.ofNat 16 (h.toNat % 16)) p = none) :
    checkedCommand order h c a p = .malformedFrame (Fin.ofNat 16 (h.toNat % 16)) c a := by
  have h1 : c.toNat ≠ 1 := fun hc => hread (BitVec.eq_of_toNat_eq hc)
  have h2 : c.toNat ≠ 2 := fun hc => hwrite (BitVec.eq_of_toNat_eq hc)
  simp only [checkedCommand, if_neg h1, if_neg h2, hnone, Option.getD_none, ite_self]

/-- A READ whose payload is not one byte of 1 to 16 is malformed (R161). -/
theorem checkedCommand_read_refused {order : BitVec 64} {h : Byte} {a : Addr} {p : List Byte}
    (hp : ∀ n, p = [n] → readLengthFits n = false) :
    checkedCommand order h 0x01 a p = .malformedFrame (Fin.ofNat 16 (h.toNat % 16)) 0x01 a := by
  match p with
  | [] => simp [checkedCommand]
  | [n] => simp [checkedCommand, hp n rfl]
  | _ :: _ :: _ => simp [checkedCommand]

/-- Settles O10: the frame's check, then the refusals of `checkedCommand` in their order. -/
theorem badFramesAreRecognised : Obligations.BadFramesAreRecognised := by
  unfold Obligations.BadFramesAreRecognised
  intro order h c a1 a0 p hp
  have hright := frameCommand_withCheck order h c a1 a0 p hp
  refine ⟨?_, ?_, ?_, ?_, ?_, ?_, ?_, ?_⟩
  · intro n rest hn
    have hlen : ¬ (h :: c :: a1 :: a0 :: n :: rest).length < 5 := by simp
    simp only [frameCommand, if_neg hlen]
    simp [u8, Config.maxPayload, hn]
  · intro k hk
    exact (frameCommand_whole order h c a1 a0 p k hp).trans (if_pos (Ne.symm hk))
  · intro hkind
    have hbits : h.toNat / 16 ≠ 0 := by omega
    exact hright.trans (by simp [checkedCommand, hbits])
  · intro h1 h2 ha
    have h1 : c.toNat ≠ 1 := fun hc => h1 (BitVec.eq_of_toNat_eq hc)
    have h2 : c.toNat ≠ 2 := fun hc => h2 (BitVec.eq_of_toNat_eq hc)
    exact hright.trans (by simp only [checkedCommand, if_neg h1, if_neg h2, if_pos ha, ite_self])
  · rintro rfl hread
    exact hright.trans (congrArg some (checkedCommand_read_refused hread))
  · rintro rfl hwrite
    have hfits : writeLengthFits p = false := by
      obtain rfl | hlong := hwrite
      · rfl
      · simp [writeLengthFits, Nat.not_le.mpr hlong]
    exact hright.trans (by simp [checkedCommand, hfits])
  · intro suits h1 h2 hsuits
    exact hright.trans (congrArg some (checkedCommand_refused h1 h2 (supervisorCommand_none hsuits)))
  · intro arguments selector part rest hc hcp hnot
    subst hc hcp
    exact hright.trans (congrArg some (checkedCommand_refused (by decide) (by decide) (statusCommand_none hnot)))

theorem frameCommand_frameBytes (order : BitVec 64) (t : Tag) {op : Nat} (a : Addr) {p : List Byte} (hp : p.length ≤ 48) :
    frameCommand order (frameBytes 0 t op a p) =
      some (checkedCommand order (BitVec.ofNat 8 t.val) (BitVec.ofNat 8 op) a p) := by
  have hframe := frameCommand_withCheck order (BitVec.ofNat 8 t.val) (BitVec.ofNat 8 op) (BitVec.ofNat 8 (a.toNat / 256))
    (BitVec.ofNat 8 a.toNat) p hp
  rw [show word16 [BitVec.ofNat 8 (a.toNat / 256), BitVec.ofNat 8 a.toNat] 0 = a from word16_wordBytes a] at hframe
  rw [← hframe]
  simp [frameBytes, frameBody, byte1, wordBytes, byte2]

/-- The header of a COMMAND frame holds its tag and nothing else (Table 10-1). -/
theorem commandHeader (t : Tag) :
    (BitVec.ofNat 8 t.val).toNat / 16 = 0 ∧ Fin.ofNat 16 ((BitVec.ofNat 8 t.val).toNat % 16) = t := by
  obtain ⟨n, hn⟩ := t
  constructor
  · simp only [BitVec.toNat_ofNat]; omega
  · apply Fin.ext
    simp only [Fin.val_ofNat, BitVec.toNat_ofNat]
    omega

/-- The command's frame spells it. -/
def ReadsBack (order : BitVec 64) (i : Instr) : Prop :=
  ∀ frame, commandFrame i = some frame → frameCommand order frame = some i

theorem readsBack_of_event {order : BitVec 64} {i : Instr} (h : opCode i = none) : ReadsBack order i := by
  intro frame hf
  simp [commandFrame, h] at hf

theorem readsBack_of_checked {order : BitVec 64} {i : Instr} {op : Nat} {t : Tag} {a : Addr} {p : List Byte}
    (hcode : opCode i = some op) (hfields : frameFields i = some (t, a, p)) (hp : p.length ≤ 48)
    (h : checkedCommand order (BitVec.ofNat 8 t.val) (BitVec.ofNat 8 op) a p = i) : ReadsBack order i := by
  intro frame hf
  simp only [commandFrame, hcode, hfields, Option.some.injEq] at hf
  rw [← hf, frameCommand_frameBytes order t a hp, h]

theorem readsBack_of_supervisor {order : BitVec 64} {i : Instr} {op : Nat} {t : Tag} {p : List Byte}
    (hcode : opCode i = some op) (hfields : frameFields i = some (t, 0, p)) (hop : op < 256 ∧ op ≠ 1 ∧ op ≠ 2)
    (hp : p.length ≤ 48) (h : supervisorCommand order op t p = some i) : ReadsBack order i := by
  obtain ⟨hbyte, h1, h2⟩ := hop
  obtain ⟨hkind, htag⟩ := commandHeader t
  have hval : (BitVec.ofNat 8 op).toNat = op := by simp only [BitVec.toNat_ofNat]; omega
  refine readsBack_of_checked hcode hfields hp ?_
  simp only [checkedCommand, hkind, htag, hval, h1, h2, h, ne_eq, not_true_eq_false, if_false, Option.getD_some]

theorem readsBack_read (order : BitVec 64) (t : Tag) (a : Addr) (n : Byte) (hn : readLengthFits n = true) :
    ReadsBack order (.read t a n) := by
  obtain ⟨hkind, htag⟩ := commandHeader t
  refine readsBack_of_checked rfl rfl (by simp) ?_
  have hval : (BitVec.ofNat 8 1).toNat = 1 := rfl
  simp only [checkedCommand, hkind, htag, hval, hn, ne_eq, not_true_eq_false, if_false, if_true]

theorem readsBack_write (order : BitVec 64) (t : Tag) (a : Addr) (d : List Byte) (hd : writeLengthFits d = true) :
    ReadsBack order (.write t a d) := by
  obtain ⟨hkind, htag⟩ := commandHeader t
  have hlen : d.length ≤ 16 := by
    simp only [writeLengthFits, Bool.and_eq_true, decide_eq_true_eq] at hd
    exact hd.2
  refine readsBack_of_checked rfl rfl (by omega) ?_
  have hval : (BitVec.ofNat 8 2).toNat = 2 := rfl
  simp only [checkedCommand, hkind, htag, hval, hd, ne_eq, not_true_eq_false, if_false, if_true, Nat.reduceEqDiff]

theorem readsBack (order : BitVec 64) (i : Instr) (w : i.wellFormed = true)
    (ho : ∀ t p o, i = .loadKeypad t p o → o = order) : ReadsBack order i := by
  cases i with
  | read t a n => exact readsBack_read order t a n w
  | write t a d => exact readsBack_write order t a d w
  | heartbeat t b => exact readsBack_of_supervisor rfl rfl (by decide) (by simp) rfl
  | hostRestart t b => exact readsBack_of_supervisor rfl rfl (by decide) (by simp) rfl
  | shutdown t b => exact readsBack_of_supervisor rfl rfl (by decide) (by simp) rfl
  | loadSequence t p => exact readsBack_of_supervisor rfl rfl (by decide) (Laws.Payload.fits w (by decide)) (if_pos (beq_iff_eq.mp w))
  | loadLadder t p => exact readsBack_of_supervisor rfl rfl (by decide) (Laws.Payload.fits w (by decide)) (if_pos (beq_iff_eq.mp w))
  | loadZone t p => exact readsBack_of_supervisor rfl rfl (by decide) (Laws.Payload.fits w (by decide)) (if_pos (beq_iff_eq.mp w))
  | loadBudget t p => exact readsBack_of_supervisor rfl rfl (by decide) (Laws.Payload.fits w (by decide)) (if_pos (beq_iff_eq.mp w))
  | loadChannel t p => exact readsBack_of_supervisor rfl rfl (by decide) (Laws.Payload.fits w (by decide)) (if_pos (beq_iff_eq.mp w))
  | loadPoll t p => exact readsBack_of_supervisor rfl rfl (by decide) (Laws.Payload.fits w (by decide)) (if_pos (beq_iff_eq.mp w))
  | loadAction t p => exact readsBack_of_supervisor rfl rfl (by decide) (Laws.Payload.fits w (by decide)) (if_pos (beq_iff_eq.mp w))
  | loadWindow t p => exact readsBack_of_supervisor rfl rfl (by decide) (Laws.Payload.fits w (by decide)) (if_pos (beq_iff_eq.mp w))
  | loadKeymapEntry t p => exact readsBack_of_supervisor rfl rfl (by decide) (Laws.Payload.fits w (by decide)) (if_pos (beq_iff_eq.mp w))
  | loadKeypad t p o =>
    rw [ho t p o rfl]
    exact readsBack_of_supervisor rfl rfl (by decide) (Laws.Payload.fits w (by decide)) (if_pos (beq_iff_eq.mp w))
  | loadKeymapSettings t p =>
    have hp : p.length = 3 := beq_iff_eq.mp w
    exact readsBack_of_supervisor rfl rfl (by decide) (Laws.Payload.fits w (by decide))
      ((if_neg (by omega)).trans (if_pos hp))
  | lockActions t a b => exact readsBack_of_supervisor rfl rfl (by decide) (by simp) rfl
  | flushActions t => exact readsBack_of_supervisor rfl rfl (by decide) (by simp) rfl
  | clearLayers t => exact readsBack_of_supervisor rfl rfl (by decide) (by simp) rfl
  | setFlags t a b => exact readsBack_of_supervisor rfl rfl (by decide) (by simp) rfl
  | counterSelect t a b => exact readsBack_of_supervisor rfl rfl (by decide) (by simp) rfl
  | storeImage t b => exact readsBack_of_supervisor rfl rfl (by decide) (by simp) rfl
  | supervisorReset t => exact readsBack_of_supervisor rfl rfl (by decide) (by simp) rfl
  | statusReadHost t k => exact readsBack_of_supervisor rfl rfl (by decide) (by simp) rfl
  | statusReadHeat t k => exact readsBack_of_supervisor rfl rfl (by decide) (by simp) rfl
  | statusReadConditions t k => exact readsBack_of_supervisor rfl rfl (by decide) (by simp) rfl
  | statusReadKeypad t k => exact readsBack_of_supervisor rfl rfl (by decide) (by simp) rfl
  | statusReadRelay t k => exact readsBack_of_supervisor rfl rfl (by decide) (by simp) rfl
  | statusReadOutputs t k => exact readsBack_of_supervisor rfl rfl (by decide) (by simp) rfl
  | statusReadErrors t k => exact readsBack_of_supervisor rfl rfl (by decide) (by simp) rfl
  | statusReadCounters t k => exact readsBack_of_supervisor rfl rfl (by decide) (by simp) rfl
  | statusReadLink t k => exact readsBack_of_supervisor rfl rfl (by decide) (by simp) rfl
  | statusReadLog t k x => exact readsBack_of_supervisor rfl rfl (by decide) (by simp) rfl
  | statusReadProbe t k x => exact readsBack_of_supervisor rfl rfl (by decide) (by simp) rfl
  | statusReadActions t k x => exact readsBack_of_supervisor rfl rfl (by decide) (by simp) rfl
  | statusReadKeymap t k l x => exact readsBack_of_supervisor rfl rfl (by decide) (by simp) rfl
  | writeOutputs t m d =>
    exact readsBack_of_supervisor rfl rfl (by decide) (by simp [wordBytes, byte2])
      (congrArg (fun w => some (Instr.writeOutputs t m w)) (word16_wordBytes d))
  | errorClear t m =>
    exact readsBack_of_supervisor rfl rfl (by decide) (by simp [wordBytes, byte2])
      (congrArg (fun w => some (Instr.errorClear t w)) (word16_wordBytes m))
  | setIgnore t m =>
    exact readsBack_of_supervisor rfl rfl (by decide) (by simp [wordBytes, byte2])
      (congrArg (fun w => some (Instr.setIgnore t w)) (word16_wordBytes m))
  | setOutputMask t p f e =>
    exact readsBack_of_supervisor rfl rfl (by decide) (by simp [wordBytes, byte2])
      (congrArg₂ (fun v w => some (Instr.setOutputMask t v w e)) (word16_wordBytes p) (word16_wordBytes f))
  | _ => exact readsBack_of_event rfl

/-- Settles O7: the frame reaches `checkedCommand` with the command's own fields, which its op code reads as that command. -/
theorem everyFrameReadsBack : Obligations.EveryFrameReadsBack := by
  unfold Obligations.EveryFrameReadsBack
  intro i frame order w hf ho
  exact readsBack order i w ho frame hf

end Sys2Proof.Machine
end

section
/-! SUPPORT. The supervisor operations taken: what their owners answer, and the replies (O20, O22, O26, O27, O31, O32, O40, O41). -/

namespace Sys2Proof.Machine
open Sys2Proof

/-! ### An operation that is ready to be taken -/

theorem Ready.delivers {s : State} (h : Ready s) : s.hpc.host.delivers = true := h.1.1

theorem HostState.running_of_delivers {h : HostState} (e : h.delivers = true) (n : h ≠ .drain) : h.running = true := by
  revert e n
  cases h <;> decide

/-- The operation is taken and its owner's answer is not BAD_REQUEST. -/
theorem exec_replied {s t : State} {i : Instr} {tag : Tag} {op : Byte} {owner : State → State × Answer} {st : Status}
    {payload : List Byte} (ready : Ready s) (hexec : exec i s = upon s (supervisorOp tag op owner))
    (howner : owner s = (t, { status := st, payload := payload })) (ht : t.hpc.host.delivers = true)
    (hst : st ≠ .badRequest) : exec i s = .next (replied tag st payload t) := by
  obtain ⟨accepts, calm⟩ := ready
  rw [hexec, upon_calm calm]
  exact supervisorOp_replied accepts tag op howner ht hst

/-- The operation is taken and its owner refuses it with BAD_REQUEST. -/
theorem exec_repliedBad {s : State} {i : Instr} {tag : Tag} {op : Byte} {owner : State → State × Answer} (ready : Ready s)
    (hexec : exec i s = upon s (supervisorOp tag op owner)) (howner : owner s = (s, .refuse .badRequest)) :
    exec i s = .next (repliedBad tag op s) := by
  obtain ⟨accepts, calm⟩ := ready
  rw [hexec, upon_calm calm]
  exact supervisorOp_bad accepts tag op owner howner

/-! ### LOAD operations (O20) -/

theorem takeMalformed_accepts {s : State} (accepts : Accepts s) (tag : Tag) (op : Byte) :
    finish (takeMalformed tag op 0 s) = .next (repliedBad tag op s) := by
  rw [takeMalformed, takeFrame_accepts accepts, finish, answerMalformed, repliedBad]

/-- A LOAD operation's refusals (R161, R169). -/
theorem loadRefusals {s : State} {tag : Tag} {op : Byte} {n : Nat} {α : Type} {decode : List Byte → Option α}
    {load : α → State → State × Answer} {command : List Byte → State → Result} (ready : Ready s)
    (hexec : ∀ p, command p s = upon s fun s => recordOp tag op (p.length == n) (loadOp (decode p) load) s) :
    LoadRefusals tag op n (fun p => (decode p).isSome) command s := by
  obtain ⟨accepts, calm⟩ := ready
  intro p
  rw [hexec p, upon_calm calm]
  refine ⟨fun other => ?_, fun fits storing => ?_, fun fits storing undecoded => ?_⟩
  · rw [recordOp, beq_false_of_ne other]
    exact takeMalformed_accepts accepts tag op
  · rw [recordOp, beq_iff_eq.mpr fits]
    exact supervisorOp_replied accepts tag op (loadOp_storing storing _ _) accepts.1 (by decide)
  · rw [recordOp, beq_iff_eq.mpr fits]
    have none : decode p = none := by simpa using undecoded
    exact supervisorOp_bad accepts tag op _ (by rw [none]; exact loadOp_none storing load)

/-- Settles O20: all eleven operations are refused in one way (`loadRefusals`). -/
theorem loadsAreRefused : Obligations.LoadsAreRefused := by
  unfold Obligations.LoadsAreRefused
  intro s tag ready
  exact ⟨loadRefusals ready fun _ => rfl, loadRefusals ready fun _ => rfl, loadRefusals ready fun _ => rfl,
    loadRefusals ready fun _ => rfl, loadRefusals ready fun _ => rfl, loadRefusals ready fun _ => rfl,
    loadRefusals ready fun _ => rfl, loadRefusals ready fun _ => rfl, fun _ => loadRefusals ready fun _ => rfl,
    loadRefusals ready fun _ => rfl, loadRefusals ready fun _ => rfl⟩

/-! ### The lengths of the payloads (Table 10-3) -/

theorem sequenceBytes_length (r : SequenceRecord) : (sequenceBytes r).length = 24 := by
  simp [sequenceBytes, railTimeBytes, flagsByte, boolByte, byte1, byte2]

theorem ladderBytes_length (r : LadderRecord) : (ladderBytes r).length = 19 := by simp [ladderBytes, byte1, byte2]

theorem zoneBytes_length (l : ZoneLoad) : (zoneBytes l).length = 25 := by
  simp [zoneBytes, zoneRecordBytes, byte1, byte2, boolByte, int2]

theorem budgetBytes_length (b : BudgetRecord) : (budgetBytes b).length = 8 := by simp [budgetBytes, byte2]

theorem channelBytes_length (l : ChannelLoad) : (channelBytes l).length = 8 := by
  simp [channelBytes, channelEntryBytes, byte1, boolByte]

theorem pollBytes_length (r : PollRecord) : (pollBytes r).length = 7 := by simp [pollBytes, byte1, byte2]

theorem windowBytes_length (l : WindowLoad) : (windowBytes l).length = 9 := by
  simp [windowBytes, windowEntryBytes, wordBytes, byte1, byte2, boolByte]

theorem keypadBytes_length (r : KeypadRecord) : (keypadBytes r).length = 7 := by simp [keypadBytes, byte1, boolByte]

theorem padTo_length {n : Nat} {p : List Byte} (h : p.length ≤ n) : (padTo n p).length = n := by
  simp only [padTo, List.length_append, List.length_replicate]
  omega

theorem actionFieldBytes_length (e : ActionEntry) : (actionFieldBytes e).length ≤ 14 := by
  cases e with
  | sample r =>
    have edge : (edgeBytes r.edge).length = 2 := by cases r.edge <;> rfl
    have level : (levelBytes r.level).length = 2 := by cases r.level <;> rfl
    simp [actionFieldBytes, byte1, byte2, int4, byte4, boolByte, edge, level]
  | guard g => simp [actionFieldBytes, byte1, flagsByte]

theorem actionBytes_length (l : ActionLoad) : (actionBytes l).length = 17 := by
  have selector : (selectorByte l.selector).length = 1 := by cases l.selector <;> rfl
  apply padTo_length
  rw [List.length_append, selector]
  cases l.entry with
  | some e =>
    have fields := actionFieldBytes_length e
    simp [entryRecordBytes, boolByte, byte1]
    omega
  | none => simp [entryRecordBytes, boolByte, byte1]

theorem keyFieldBytes_length (e : KeyEntry) : (keyFieldBytes e).length ≤ 5 := by
  cases e with
  | none | transparent | clearOne | clearAll => exact Nat.zero_le 5
  | plain code => simp [keyFieldBytes, byte1]
  | layer l t count delay => simp [keyFieldBytes, byte1, byte2]
  | service f c =>
    have function : (functionBytes f).length = 2 := by cases f <;> rfl
    simp [keyFieldBytes, byte1, function]

theorem keymapBytes_length (l : KeymapLoad) : (keymapBytes l).length = 9 := by
  have fields := keyFieldBytes_length l.entry
  apply padTo_length
  simp [keyEntryBytes, byte1]
  omega

theorem keymapSettingsBytes_length (t : Nat) : (keymapSettingsBytes t).length = 3 := by
  simp [keymapSettingsBytes, byte1, byte2]

/-! ### LOAD operations taken (O21, O22) -/

/-- A LOAD operation of a record in range, while nothing is being stored, is its owner's. -/
theorem load_exec {s : State} {i : Instr} {tag : Tag} {op : Byte} {n : Nat} {α : Type} {p : List Byte}
    {decoded : Option α} {r : α} {load : α → State → State × Answer} (ready : Ready s)
    (storing : s.imageState.isStoring = false)
    (hlength : p.length = n) (hread : decoded = some r)
    (hexec : exec i s = upon s (recordOp tag op (p.length == n) (loadOp decoded load))) :
    exec i s = upon s (supervisorOp tag op (load r)) := by
  obtain ⟨accepts, calm⟩ := ready
  rw [hexec, upon_calm calm, upon_calm calm, recordOp, beq_iff_eq.mpr hlength, if_pos rfl, hread]
  simp only [supervisorOp, takeFrame, loadOp_some storing]

/-- A LOAD operation that its owner answers DONE. -/
theorem load_done {s t : State} {i : Instr} {tag : Tag} {op : Byte} {n : Nat} {α : Type} {p : List Byte}
    {decoded : Option α} {r : α} {load : α → State → State × Answer} {payload : List Byte} (ready : Ready s)
    (storing : s.imageState.isStoring = false) (hlength : p.length = n) (hread : decoded = some r)
    (hexec : exec i s = upon s (recordOp tag op (p.length == n) (loadOp decoded load)))
    (howner : load r s = (t, { status := .done, payload := payload })) (ht : t.hpc.host.delivers = true) :
    exec i s = .next (replied tag .done payload t) :=
  exec_replied ready (load_exec ready storing hlength hread hexec) howner ht (by decide)

theorem applyLoadBudget_kept {b : BudgetRecord} {s : State}
    (h : s.heat.budget.inForce s.hpc.host ≤ b.inForce s.hpc.host) :
    applyLoadBudget b s = ({ s with heat := { s.heat with budget := b } }, .done) := by
  have kept : ¬ budgetInForce { s with heat := { s.heat with budget := b } } < budgetInForce s := Nat.not_lt.mpr h
  rw [applyLoadBudget, if_neg kept]

theorem applyLoadBudget_fallen {b : BudgetRecord} {s : State}
    (h : b.inForce s.hpc.host < s.heat.budget.inForce s.hpc.host) :
    applyLoadBudget b s = (immediateRecompute { s with heat := { s.heat with budget := b } }, .done) := by
  have fallen : budgetInForce { s with heat := { s.heat with budget := b } } < budgetInForce s := h
  rw [applyLoadBudget, if_pos fallen]

/-- Settles O21: each record is read back from its payload, and its owner stores it. -/
theorem loadsReplaceTheirTables : Obligations.LoadsReplaceTheirTables := by
  unfold Obligations.LoadsReplaceTheirTables
  intro s tag ready storing
  have delivers := ready.delivers
  refine ⟨fun r h => ?_, fun r h => ?_, fun r h => ?_, fun l h => ?_, fun l h => ?_, fun n h => ?_, fun b h => ⟨?_, ?_⟩⟩
  · exact load_done ready storing (sequenceBytes_length r) (readSequence_sequenceBytes h) rfl rfl delivers
  · exact load_done ready storing (ladderBytes_length r) (readLadder_ladderBytes h) rfl rfl delivers
  · exact load_done ready storing (pollBytes_length r) (readPoll_pollBytes h) rfl rfl delivers
  · exact load_done ready storing (windowBytes_length l) (readWindow_windowBytes h) rfl rfl delivers
  · exact load_done ready storing (keymapBytes_length l) (readKeymapEntry_keymapBytes h) rfl rfl delivers
  · exact load_done ready storing (keymapSettingsBytes_length n) (readKeymapSettings_keymapSettingsBytes h) rfl rfl delivers
  · intro kept
    exact load_done ready storing (budgetBytes_length b) (readBudget_budgetBytes h) rfl (applyLoadBudget_kept kept) delivers
  · intro fallen
    exact load_done ready storing (budgetBytes_length b) (readBudget_budgetBytes h) rfl (applyLoadBudget_fallen fallen) delivers

theorem priorityTaken_iff (s : State) (l : ZoneLoad) :
    priorityTaken s l = true ↔ l.record.enable = true ∧ ∃ z : Zone, z ≠ l.zone ∧ s.heat.records[z].enable = true
      ∧ s.heat.records[z].priority = l.record.priority := by
  simp [priorityTaken, mem_allZones, and_assoc]

/-- What R24 clears, field by field. -/
theorem reloadedZone_eq (old new : ZoneRecord) (x : ZoneState) :
    reloadedZone old new x =
      { working := x.working, request := 0, held := if old.channel = new.channel then x.held else none
        holdCount := if old.channel = new.channel then x.holdCount else 0, cutDemand := x.cutDemand, cut := x.cut, grant := 0
        onStreak := 0, restCount := 0, output := false } := by
  by_cases same : old.channel = new.channel
  · simp only [reloadedZone, if_pos same]
  · simp only [reloadedZone, if_neg same]

theorem applyLoadZone_free {l : ZoneLoad} {s : State} (free : ¬ priorityTaken s l = true) :
    applyLoadZone l s =
      ({ s with heat := { s.heat with
          records := vset s.heat.records l.zone l.record
          zones := vset s.heat.zones l.zone (reloadedZone s.heat.records[l.zone] l.record s.heat.zones[l.zone]) } },
        .done) := by
  rw [applyLoadZone, if_neg free]

/-- Settles O22: the owner's check of the priority decides. -/
theorem loadZoneReplacesTheRecordAndClearsTheZone : Obligations.LoadZoneReplacesTheRecordAndClearsTheZone := by
  unfold Obligations.LoadZoneReplacesTheRecordAndClearsTheZone
  intro s tag l ready storing h
  have owner : exec (.loadZone tag (zoneBytes l)) s = upon s (supervisorOp tag 0x20 (applyLoadZone l)) :=
    load_exec ready storing (zoneBytes_length l) (readZone_zoneBytes h) rfl
  dsimp only
  constructor
  · intro isTaken
    refine exec_repliedBad ready owner ?_
    rw [applyLoadZone, if_pos ((priorityTaken_iff s l).mpr isTaken)]
  · intro free
    have replaced := applyLoadZone_free (l := l) (s := s) (mt (priorityTaken_iff s l).mp free)
    rw [reloadedZone_eq] at replaced
    simp only [decide_eq_true_eq]
    exact exec_replied ready owner replaced ready.delivers (by decide)

/-! ### Flags, output word and counters (O26, O27, O31) -/

theorem maskedFlags_getLsbD (flags : BitVec 4) (set clear : Byte) (i : Fin 4) :
    (maskedFlags flags (set.setWidth 4) (clear.setWidth 4)).getLsbD i =
      (set.getLsbD i || (flags.getLsbD i && !clear.getLsbD i)) := by
  simp [maskedFlags, i.isLt]

/-- Settles O26. -/
theorem setFlagsWritesTheFourFlags : Obligations.SetFlagsWritesTheFourFlags := by
  unfold Obligations.SetFlagsWritesTheFourFlags
  intro s tag set clear ready
  constructor
  · intro hset hclear
    have low : (16 ≤ set.toNat || 16 ≤ clear.toNat) = false := by simp; omega
    refine ⟨_, maskedFlags_getLsbD s.flags set clear, exec_replied ready rfl ?_ ready.delivers (by decide)⟩
    rw [applySetFlags, if_neg (by rw [low]; decide)]
  · intro high
    refine exec_repliedBad ready rfl ?_
    rw [applySetFlags, if_pos (by simpa using high)]

theorem Word.ext_outputs {v w : Word} (h : ∀ o : Fin 16, v.getLsbD o.val = w.getLsbD o.val) : v = w :=
  BitVec.eq_of_getLsbD_eq fun i hi => h ⟨i, hi⟩

theorem directWrite_eq (plane data old : Word) :
    directWrite plane data old = wordOf fun o => if plane.getLsbD o then data.getLsbD o else old.getLsbD o := by
  refine Word.ext_outputs fun o => ?_
  rw [wordOf_getLsbD]
  cases h : plane.getLsbD o.val <;>
    simp [directWrite, BitVec.getLsbD_or, BitVec.getLsbD_and, BitVec.getLsbD_not, h, -BitVec.getLsbD_eq_getElem]

theorem stippleWrite_eq (plane foreground data old : Word) :
    stippleWrite plane foreground data old =
      wordOf fun o => if plane.getLsbD o && data.getLsbD o then foreground.getLsbD o else old.getLsbD o := by
  refine Word.ext_outputs fun o => ?_
  rw [wordOf_getLsbD]
  cases h : plane.getLsbD o.val <;> cases h' : data.getLsbD o.val <;>
    simp [stippleWrite, BitVec.getLsbD_or, BitVec.getLsbD_and, BitVec.getLsbD_not, h, h', -BitVec.getLsbD_eq_getElem]

theorem applyWriteOutputs_some {mode : Byte} {data : Word} {s : State} {w : Word}
    (h : writtenWord s.outs mode data = some w) :
    applyWriteOutputs mode data s =
      ({ s with outs := { s.outs with hostWord := w } },
        { status := .done
          payload := wordBytes w ++ wordBytes (effectiveWord { s with outs := { s.outs with hostWord := w } }) }) := by
  rw [applyWriteOutputs, h]

/-- Settles O27: the words are written by masks, which act bit by bit. -/
theorem outputWritesActBitByBit : Obligations.OutputWritesActBitByBit := by
  unfold Obligations.OutputWritesActBitByBit
  intro s tag ready
  refine ⟨fun mode data => ?_, fun plane foreground indicator => ⟨?_, ?_⟩⟩
  · intro direct stipple written
    refine ⟨?_, ?_, ?_⟩
    · rintro rfl
      refine exec_replied ready rfl (applyWriteOutputs_some ?_) ready.delivers (by decide)
      rw [writtenWord, if_pos rfl, directWrite_eq]
    · rintro rfl
      refine exec_replied ready rfl (applyWriteOutputs_some ?_) ready.delivers (by decide)
      rw [writtenWord, if_neg (by decide), if_pos rfl, stippleWrite_eq]
    · intro other
      have h0 : mode ≠ 0 := by rintro rfl; simp at other
      have h1 : mode ≠ 1 := by rintro rfl; simp at other
      refine exec_repliedBad ready rfl ?_
      rw [applyWriteOutputs, writtenWord, if_neg h0, if_neg h1]
  · intro flag
    refine exec_replied ready rfl ?_ ready.delivers (by decide)
    rw [applySetOutputMask, if_neg (by omega)]
    rfl
  · intro other
    refine exec_repliedBad ready rfl ?_
    rw [applySetOutputMask, if_pos other]

theorem countEvent_get (s : State) (e : CounterEvent) (k : Fin 2) : (countEvent e s).counters[k] = s.counters[k].tick e := by
  fin_cases k <;> rfl

theorem tick_eq (e : CounterEvent) (c : Counter) :
    c.tick e = { select := c.select, count := if c.select = e then (c.count + 1) % 4294967296 else c.count } := by
  by_cases h : c.select = e
  · simp [Counter.tick, h]
  · simp [Counter.tick, h]

theorem counterEvents_code (e : CounterEvent) : counterEvents[e.code]? = some e ∧ e.code < 11 := by
  cases e <;> decide

theorem counterSelect_done (s : State) (k : Fin 2) (e : CounterEvent) :
    applyCounterSelect (BitVec.ofNat 8 k.val) (BitVec.ofNat 8 e.code) s =
      ({ s with counters := vset s.counters k { select := e, count := 0 } }, .done) := by
  obtain ⟨found, small⟩ := counterEvents_code e
  have hk : (BitVec.ofNat 8 k.val).toNat = k.val := byte_toNat (by omega)
  have he : (BitVec.ofNat 8 e.code).toNat = e.code := byte_toNat (by omega)
  simp only [applyCounterSelect, hk, he, found, dif_pos k.isLt]

theorem counterSelect_refused {k e : Byte} (h : 2 ≤ k.toNat ∨ 11 ≤ e.toNat) (s : State) :
    applyCounterSelect k e s = (s, .refuse .badRequest) := by
  unfold applyCounterSelect
  split
  · have none : counterEvents[e.toNat]? = none := by
      rw [List.getElem?_eq_none_iff]
      exact (h.resolve_left (by omega))
    rw [none]
  · rfl

theorem moveHost_counters (new : HostState) (s : State) : (moveHost new s).counters = s.counters := by rw [moveHost_eq]

theorem softRestart_counters (cause : RestartCause) (s : State) : (softRestart cause s).counters = s.counters := by
  rw [softRestart_eq, moveHost_counters]

theorem makePendingRestart_counters (kind : RestartKind) (s : State) :
    (makePendingRestart kind s).counters = s.counters := by
  cases kind with
  | soft => exact softRestart_counters .hostRequest { s with hpc.pendingRestart := none }
  | hard => simp only [makePendingRestart, writeLog_eq, discardWatchdog_eq, enterPowerCycle_eq, moveHost_counters]

theorem resetQueues_counters (s : State) : (resetQueues s).counters = s.counters := by
  simp only [resetQueues, hostRestartReplyLeft]
  split
  · split
    · rw [makePendingRestart_counters]; rfl
    · rfl
  · rfl

theorem answer_counters {a : Answer} (h : a.status ≠ .badRequest) (tag : Tag) (op : Byte) (s : State) :
    (answer tag op a s).counters = s.counters := by
  unfold answer
  simp only [h, if_false]
  split
  · simp
  · rfl

/-- A SUPERVISOR_RESET leaves the counters as after power-on, whatever else it makes (R168, R178). -/
theorem supervisorReset_counters {s : State} (accepts : Accepts s) (tag : Tag) :
    ∃ t, exec (.supervisorReset tag) s = .next t ∧ t.counters = Counter.initial := by
  have still : Accepts (reportRelayEmpty s) := by
    unfold reportRelayEmpty
    split
    · exact accepts
    · exact accepts
  have taken : exec (.supervisorReset tag) s =
      .next (startTransmit (answer tag 0x5F .done (resetQueues (resetBlocks (reportRelayEmpty s))))) := by
    change upon s (supervisorOp tag 0x5F applySupervisorReset) = _
    simp only [upon, supervisorOp, takeFrame_accepts still, finish, applySupervisorReset]
  refine ⟨_, taken, ?_⟩
  rw [startTransmit_counters, answer_counters (by decide), resetQueues_counters]
  rfl

/-- Outside the delivering host states an error is recorded without a notice (R164, R174). -/
theorem recordError_deaf {s : State} (h : s.hpc.host.delivers = false) (c : ErrorClass) (f : ErrorFields) :
    recordError c f s = latchError c f s := by
  unfold recordError
  split
  · have deaf : (latchError c f s).hpc.host.delivers = false := h
    rw [handNotice, deaf]
    rfl
  · rfl

theorem powerOn_counters (s : State) : ∃ t, exec .powerOn s = .next t ∧ t.counters = Counter.initial := by
  refine ⟨applyPower s, rfl, ?_⟩
  simp only [applyPower, imageCheck]
  split
  · rw [recordError_deaf (by rfl)]
    rfl
  · rfl
  · rfl

/-- Settles O31. -/
theorem countersCountTheirSelectedEvent : Obligations.CountersCountTheirSelectedEvent := by
  unfold Obligations.CountersCountTheirSelectedEvent
  refine ⟨fun s e => ⟨fun k => ?_, rfl⟩, fun s tag ready => ⟨fun k e => ?_, fun k e h => ?_⟩, fun s => ⟨?_, ?_⟩⟩
  · rw [countEvent_get, tick_eq]
  · exact exec_replied ready rfl (counterSelect_done s k e) ready.delivers (by decide)
  · exact exec_repliedBad ready rfl (counterSelect_refused h s)
  · exact powerOn_counters s
  · exact fun tag accepts => supervisorReset_counters accepts tag

end Sys2Proof.Machine
end

section
/-! SUPPORT. LOCK_ACTIONS, HEARTBEAT, HOST_RESTART and the transmitter (O32, O40, O41, O42). -/

namespace Sys2Proof.Machine
open Sys2Proof

/-! ### LOCK_ACTIONS (O32) -/

theorem applyLockActions_outOfRange {k p : Byte} {s : State} (storing : s.imageState.isStoring = false)
    (out : ¬ (1 ≤ k.toNat ∧ k.toNat ≤ 3 ∧ p.toNat ≤ 1)) : applyLockActions k p s = (s, .refuse .badRequest) := by
  simp only [applyLockActions, storing, dif_neg out, Bool.false_eq_true, if_false]

theorem applyLockActions_inRange {k p : Byte} {s : State} (storing : s.imageState.isStoring = false)
    (range : 1 ≤ k.toNat ∧ k.toNat ≤ 3 ∧ p.toNat ≤ 1) :
    applyLockActions k p s =
      if s.acts.protect = true ∧ k.toNat ≠ s.acts.lock.val then (s, .refuse .locked)
      else if k.toNat < s.acts.lock.val then (s, .refuse .badRequest)
      else
        ({ s with acts := { s.acts with lock := Fin.ofNat 4 k.toNat, protect := s.acts.protect || decide (p = 1) } },
          { status := .done, payload := [k, if s.acts.protect || decide (p = 1) then 1 else 0] }) := by
  have lock : (⟨k.toNat, by omega⟩ : Fin 4) = Fin.ofNat 4 k.toNat := Fin.ext (by simp only [Fin.val_ofNat]; omega)
  have bytes (b : Bool) : byte1 k.toNat ++ byte1 b.toNat = [k, if b then 1 else 0] := by
    cases b <;> simp [byte1]
  simp only [applyLockActions, storing, dif_pos range, Bool.false_eq_true, if_false, lock, bytes, Bool.and_eq_true,
    decide_eq_true_eq]

/-- Settles O32. -/
theorem lockActionsChecksInOrder : Obligations.LockActionsChecksInOrder := by
  unfold Obligations.LockActionsChecksInOrder
  intro s tag k p ready inRange held
  refine ⟨fun storing => ?_, fun storing out => ?_, fun storing range locked => ?_, fun storing range free below => ?_,
    fun storing range free above => ?_⟩
  · refine exec_replied ready rfl ?_ ready.delivers (by decide)
    rw [applyLockActions, if_pos storing]
    rfl
  · exact exec_repliedBad ready rfl (applyLockActions_outOfRange storing out)
  · refine exec_replied ready rfl ?_ ready.delivers (by decide)
    rw [applyLockActions_inRange storing range, if_pos locked]
    rfl
  · refine exec_repliedBad ready rfl ?_
    rw [applyLockActions_inRange storing range, if_neg free, if_pos below]
  · refine exec_replied ready rfl ?_ ready.delivers (by decide)
    rw [applyLockActions_inRange storing range, if_neg free, if_neg (Nat.not_lt.mpr above)]

/-! ### The shapes of a change of host state -/

/-- What an immediate recomputation does depends on the host state, and on nothing else of the Host Power Controller. -/
theorem immediateRecompute_hpc_heat (s : State) (h : Hpc) (host : HostState) :
    (immediateRecompute { s with hpc := { h with host := host } }).heat =
      (immediateRecompute { s with hpc := { s.hpc with host := host } }).heat := by
  rw [immediateRecompute_heat, immediateRecompute_heat]
  rfl

theorem budgeted_hpc (new : HostState) (s : State) {h : Hpc} (host : h.host = s.hpc.host) :
    budgeted new { s with hpc := h } = budgeted new s := by
  simp only [budgeted, host, immediateRecompute_hpc_heat s h]

/-- A change of host state that leaves the presses, a pending request and the receiver as they are. -/
def HostState.mild (old new : HostState) : Bool :=
  !new.restartEvent && (new.running || !old.running) && (new.keysReported || !old.keysReported)
    && (old.delivers == new.delivers)

/-- Of what a mild change brings, the budget in force is left. -/
theorem moveHost_mild {old new : HostState} (mild : old.mild new = true) {s : State} (host : s.hpc.host = old) :
    moveHost new s = { s with hpc := { s.hpc with host := new }, heat := budgeted new s } := by
  subst host
  simp only [HostState.mild, Bool.and_eq_true, Bool.not_eq_true', beq_iff_eq] at mild
  obtain ⟨⟨⟨plain, request⟩, keys⟩, receiver⟩ := mild
  have keymap : keymapAfter new s = s.keymap := by
    cases reported : new.keysReported <;> simp_all [keymapAfter, unreported]
  have bytes : partialAfter new s = s.panel.partialFrame := by
    simp only [partialAfter, receiver, bne_self_eq_false, Bool.false_eq_true, if_false]
  have pending : requestAfter new s = s.hpc.pendingRestart := by
    cases runs : new.running <;> simp_all [requestAfter]
  rw [moveHost_plain plain, keymap, bytes, pending]

/-- The allocator where the budget in force does not fall. -/
theorem budgeted_kept {new : HostState} {s : State} (h : s.heat.budget.inForce s.hpc.host ≤ s.heat.budget.inForce new) :
    budgeted new s = s.heat := if_neg (Nat.not_lt.mpr h)

/-- The allocator where the budget in force falls. -/
theorem budgeted_fallen {new : HostState} {s : State} (h : s.heat.budget.inForce new < s.heat.budget.inForce s.hpc.host) :
    budgeted new s = (immediateRecompute { s with hpc := { s.hpc with host := new } }).heat := if_pos h

/-! ### HEARTBEAT (O40) -/

theorem heartbeatEarly_iff (s : State) :
    heartbeatEarly s = true ↔ s.hpc.ladder.earlyWindow ≠ 0
      ∧ (s.hpc.beat.any fun b => s.now - b.moment < ms s.hpc.ladder.earlyWindow) = true := by
  unfold heartbeatEarly
  cases s.hpc.beat with
  | some b => simp
  | none => simp

/-- The Host Power Controller after an accepted heartbeat in RUN (R96). -/
def beatenHpc (seq : Byte) (s : State) : Hpc :=
  { s.hpc with
    host := .run, beat := some { moment := s.now, period := s.hpc.ladder.period }, lastSeq := some seq
    heartbeatTimer := some { start := s.now, span := ms s.hpc.ladder.period } }

theorem acceptHeartbeat_run {seq : Byte} {s : State} (h : s.hpc.host = .run) :
    acceptHeartbeat seq s = countEvent .heartbeats { s with hpc := beatenHpc seq s } := by
  have same : beatenHpc seq s = { beatenHpc seq s with host := s.hpc.host } := by rw [h]; rfl
  rw [same]
  simp only [acceptHeartbeat, h]
  rw [← h]
  rfl

/-- The state at the change to RUN that an accepted heartbeat makes in BOOT and WARN. -/
def passingToRun (seq : Byte) (boot grace stable : Option Timer) (s : State) : State :=
  countEvent .heartbeats
    { s with hpc := { beatenHpc seq s with
        host := s.hpc.host, bootTimer := boot, graceTimer := grace, stableTimer := stable } }

theorem acceptHeartbeat_warn {seq : Byte} {s : State} (h : s.hpc.host = .warn) :
    acceptHeartbeat seq s = countEvent .heartbeats { s with hpc := { beatenHpc seq s with graceTimer := none } } := by
  have moved : acceptHeartbeat seq s = moveHost .run (passingToRun seq s.hpc.bootTimer none s.hpc.stableTimer s) := by
    simp only [acceptHeartbeat, h]
    rw [← h]
    rfl
  have same : (passingToRun seq s.hpc.bootTimer none s.hpc.stableTimer s).heat.budget.inForce s.hpc.host
      ≤ (passingToRun seq s.hpc.bootTimer none s.hpc.stableTimer s).heat.budget.inForce .run := by
    rw [h]
    exact Nat.le_refl _
  rw [moved, moveHost_mild (s := passingToRun seq _ _ _ s) (old := .warn) (by decide) h, budgeted_kept same]
  rfl

/-- The state after an accepted heartbeat in BOOT, the budget in force aside (R96). -/
def beatenInBoot (seq : Byte) (s : State) : State :=
  countEvent .heartbeats
    { s with hpc := { beatenHpc seq s with
        bootTimer := none
        stableTimer := some { start := s.now, span := minutes s.hpc.ladder.stableTime } } }

theorem acceptHeartbeat_boot {seq : Byte} {s : State} (h : s.hpc.host = .boot) :
    acceptHeartbeat seq s =
      if s.heat.budget.run < s.heat.budget.inrush then immediateRecompute (beatenInBoot seq s) else beatenInBoot seq s := by
  have moved : acceptHeartbeat seq s = moveHost .run
      (passingToRun seq none s.hpc.graceTimer (some { start := s.now, span := minutes s.hpc.ladder.stableTime }) s) := by
    simp only [acceptHeartbeat, h]
    rw [← h]
    rfl
  have before : s.heat.budget.inForce s.hpc.host = s.heat.budget.inrush := by rw [h]; rfl
  rw [moved, moveHost_mild (s := passingToRun seq _ _ _ s) (old := .boot) (by decide) h]
  split
  · next falls =>
    rw [budgeted_fallen (before.symm ▸ falls)]
    rfl
  · next stays =>
    rw [budgeted_kept (before.symm ▸ Nat.not_lt.mp stays)]
    rfl

/-- Settles O40: the checks in their order, then what acceptance does in each host state. -/
theorem heartbeatChecksInOrder : Obligations.HeartbeatChecksInOrder := by
  unfold Obligations.HeartbeatChecksInOrder
  intro s tag seq ready l early fresh h beaten up
  have delivers := ready.delivers
  have running (h : s.hpc.host ≠ .drain) : s.hpc.host.running = true := HostState.running_of_delivers delivers h
  have accepted (h : s.hpc.host ≠ .drain) (fresh : fresh) : applyHeartbeat seq s = (acceptHeartbeat seq s, .done) := by
    obtain ⟨late, other⟩ := fresh
    rw [applyHeartbeat, running h, if_neg (by decide), if_neg (mt (heartbeatEarly_iff s).mp late), if_neg other]
  refine ⟨fun drain => ?_, fun host isEarly => ?_, fun host late repeated => ?_, fun host isFresh => ?_, fun host isFresh => ?_,
    fun host isFresh stays => ?_, fun host isFresh falls => ?_⟩
  · refine exec_replied ready rfl ?_ delivers (by decide)
    rw [applyHeartbeat, drain]
    rfl
  · refine exec_replied ready rfl ?_ delivers (by decide)
    rw [applyHeartbeat, running host, if_neg (by decide), if_pos ((heartbeatEarly_iff s).mpr isEarly)]
    rfl
  · refine exec_repliedBad ready rfl ?_
    rw [applyHeartbeat, running host, if_neg (by decide), if_neg (mt (heartbeatEarly_iff s).mp late), if_pos repeated]
  · have owner := accepted (by rw [host]; decide) isFresh
    rw [acceptHeartbeat_run host] at owner
    exact exec_replied ready rfl owner rfl (by decide)
  · have owner := accepted (by rw [host]; decide) isFresh
    rw [acceptHeartbeat_warn host] at owner
    exact exec_replied ready rfl owner rfl (by decide)
  · have owner := accepted (by rw [host]; decide) isFresh
    rw [acceptHeartbeat_boot host, if_neg (Nat.not_lt.mpr stays)] at owner
    exact exec_replied ready rfl owner rfl (by decide)
  · have owner := accepted (by rw [host]; decide) isFresh
    rw [acceptHeartbeat_boot host, if_pos falls] at owner
    exact exec_replied ready rfl owner rfl (by decide)

/-! ### HOST_RESTART (O41) -/

/-- HOST_RESTART accepted: its reply is marked, so that its leaving makes the restart (R107, R108). -/
theorem hostRestart_accepted {s : State} {tag : Tag} {kind : Byte} {k : RestartKind} (ready : Ready s)
    (owner : applyHostRestart kind s =
      ({ s with hpc := { s.hpc with pendingRestart := some k } }, { status := .done, restart := true })) :
    exec (.hostRestart tag kind) s =
      .next (startTransmit (placeReply { tag := tag, address := 0, status := .done, payload := [], restart := true }
        { s with hpc := { s.hpc with pendingRestart := some k } })) := by
  obtain ⟨accepts, calm⟩ := ready
  change upon s (supervisorOp tag 0x11 (applyHostRestart kind)) = _
  rw [upon_calm calm, supervisorOp_accepts accepts tag 0x11 _ (by rw [owner]; exact accepts.1) (by rw [owner]; exact nofun), owner]

theorem applyHostRestart_running {s : State} (kind : Byte) (running : s.hpc.host.running = true)
    (free : s.hpc.pendingRestart = none) :
    applyHostRestart kind s =
      if kind = 0 then ({ s with hpc := { s.hpc with pendingRestart := some .soft } }, { status := .done, restart := true })
      else if kind = 1 then ({ s with hpc := { s.hpc with pendingRestart := some .hard } }, { status := .done, restart := true })
      else (s, .refuse .badRequest) := by
  simp [applyHostRestart, running, free]

/-- Settles O41. -/
theorem hostRestartIsRecordedAsPending : Obligations.HostRestartIsRecordedAsPending := by
  unfold Obligations.HostRestartIsRecordedAsPending
  intro s tag kind ready accepted
  refine ⟨fun busy => ?_, fun host free => ?_⟩
  · refine exec_replied ready rfl (t := s) (st := .state) (payload := []) ?_ ready.delivers (by decide)
    obtain drain | pending := busy
    · rw [applyHostRestart, drain]
      rfl
    · have waits : s.hpc.pendingRestart.isSome = true := Option.isSome_iff_ne_none.mpr pending
      simp only [applyHostRestart, waits, if_true, ite_self]
      rfl
  · have owner := applyHostRestart_running kind (HostState.running_of_delivers ready.delivers host) free
    refine ⟨?_, ?_, fun other => ?_⟩
    · rintro rfl
      exact hostRestart_accepted ready owner
    · rintro rfl
      exact hostRestart_accepted ready owner
    · have h0 : kind ≠ 0 := by rintro rfl; simp at other
      have h1 : kind ≠ 1 := by rintro rfl; simp at other
      rw [if_neg h0, if_neg h1] at owner
      exact exec_repliedBad ready rfl owner

end Sys2Proof.Machine
end

section
/-! SUPPORT. The transmitter and the restarts (O42 to O46). -/

namespace Sys2Proof.Machine
open Sys2Proof

/-! ### A timer that runs out -/

/-- The command of a timer that runs acts at its moment (log 3). -/
theorem exec_expiry {s : State} {i : Instr} {timer : State → Option Timer} {act : State → State} {t : Timer} (calm : Calm s)
    (runs : timer s = some t) (hexec : exec i s = upon s fun s => onExpiry (timer s) act s) :
    exec i s = .next (startTransmit (act { s with now := max s.now t.deadline })) := by
  rw [hexec, upon_calm calm]
  simp only [onExpiry, runs]
  rfl

/-- A step that leaves the delivering host states begins no frame. -/
theorem exec_expiry_deaf {s : State} {i : Instr} {timer : State → Option Timer} {act : State → State} {t : Timer} (calm : Calm s)
    (runs : timer s = some t) (hexec : exec i s = upon s fun s => onExpiry (timer s) act s)
    (deaf : (act { s with now := max s.now t.deadline }).hpc.host.delivers = false) :
    exec i s = .next (act { s with now := max s.now t.deadline }) := by
  rw [exec_expiry calm runs hexec, startTransmit_deaf deaf]

/-! ### Where the restarts leave the host -/

theorem softRestart_host (cause : RestartCause) (s : State) : (softRestart cause s).hpc.host = .restart := moveHost_host ..

theorem enterPowerCycle_host (s : State) : (enterPowerCycle s).hpc.host = .powerCycle := moveHost_host ..

theorem enterLockout_host (s : State) : (enterLockout s).hpc.host = .lockout := moveHost_host ..

theorem hardDecision_deaf (cause : RestartCause) (s : State) : (hardDecision cause s).hpc.host.delivers = false := by
  simp only [hardDecision]
  split
  · rw [enterLockout_host]; rfl
  · rw [enterPowerCycle_host]; rfl

theorem escalate_deaf (cause : RestartCause) (s : State) : (escalate cause s).hpc.host.delivers = false := by
  unfold escalate
  split
  · rw [softRestart_host]; rfl
  · exact hardDecision_deaf cause s

/-! ### The transmitter (O42) -/

/-- The state with both queues, the transmitter idle, and the pending request given. -/
def idleWith (replies : List Reply) (notices : List Notice) (pending : Option RestartKind) (s : State) : State :=
  { s with
    panel := { s.panel with replies := replies, notices := notices, tx := .idle }
    hpc := { s.hpc with pendingRestart := pending } }

/-- The frame that has left was no HOST_RESTART's. -/
theorem replySent_plain {s : State} (h : (s.panel.replies.head?.any Reply.restart) = false) :
    replySent s = idleWith s.panel.replies.tail s.panel.notices s.hpc.pendingRestart s := by
  unfold replySent
  split
  · next r rest hr =>
    rw [hr] at h ⊢
    have plain : r.restart = false := h
    simp only [plain, Bool.false_eq_true, if_false]
    rfl
  · next hr =>
    rw [hr, List.tail_nil, ← hr]
    rfl

/-- The frame that has left was a HOST_RESTART's (R108). -/
theorem replySent_restart {s : State} (h : (s.panel.replies.head?.any Reply.restart) = true) :
    replySent s =
      hostRestartReplyLeft (idleWith s.panel.replies.tail s.panel.notices s.hpc.pendingRestart s) := by
  unfold replySent
  split
  · next r rest hr =>
    rw [hr] at h ⊢
    have marked : r.restart = true := h
    simp only [marked, if_true]
    rfl
  · next hr => simp [hr] at h

theorem hostRestartReplyLeft_soft (s : State) (replies : List Reply) (notices : List Notice) :
    hostRestartReplyLeft (idleWith replies notices (some .soft) s) =
      softRestart .hostRequest (idleWith replies notices none s) := rfl

theorem hostRestartReplyLeft_hard (s : State) (replies : List Reply) (notices : List Notice) :
    hostRestartReplyLeft (idleWith replies notices (some .hard) s) =
      enterPowerCycle { idleWith replies notices none s with
        hpc := unwatched (logged .hostRequest .hard s.hpc.hardList.length s.hpc.softCount
          (idleWith replies notices none s)) } := by
  change makePendingRestart .hard (idleWith replies notices (some .hard) s) = _
  simp only [makePendingRestart, writeLog_eq, discardWatchdog_eq]
  rfl

theorem exec_transmitComplete {s : State} (calm : Calm s) {tx : Transmitter} (h : s.panel.tx = tx) :
    exec .transmitComplete s = finish (match tx with
      | .idle => s
      | .reply => replySent s
      | .notice => { s with panel := { s.panel with notices := s.panel.notices.tail, tx := .idle } }) := by
  change execTransmitComplete s = _
  rw [execTransmitComplete, upon_calm calm]
  cases tx <;> simp only [h]

/-- Settles O42: what leaves with the frame, and the restart that its leaving may make. -/
theorem transmitterSendsRepliesFirst : Obligations.TransmitterSendsRepliesFirst := by
  unfold Obligations.TransmitterSendsRepliesFirst
  intro s idle
  refine ⟨?_, startTransmit_reply, startTransmit_notice, fun _ => rfl, fun calm free => ?_, fun calm notice => ?_,
    fun calm reply => ⟨?_, ?_, ?_⟩⟩
  · rintro (deaf | busy | ⟨noReply, noNotice⟩)
    · exact startTransmit_deaf deaf
    · exact startTransmit_busy busy
    · exact startTransmit_empty noReply noNotice
  · exact exec_transmitComplete calm free
  · exact exec_transmitComplete calm notice
  · intro stays
    have sent : replySent s = idleWith s.panel.replies.tail s.panel.notices s.hpc.pendingRestart s := by
      cases marked : s.panel.replies.head?.any Reply.restart with
      | false => exact replySent_plain marked
      | true =>
        have free : s.hpc.pendingRestart = none := stays.resolve_left (by simp only [marked]; decide)
        rw [replySent_restart marked, hostRestartReplyLeft]
        simp only [idleWith, free]
    rw [exec_transmitComplete calm reply, finish, sent]
    rfl
  · intro marked pending
    rw [exec_transmitComplete calm reply, finish, replySent_restart marked, pending, hostRestartReplyLeft_soft,
      startTransmit_deaf (by rw [softRestart_host]; rfl)]
    rfl
  · intro marked pending
    rw [exec_transmitComplete calm reply, finish, replySent_restart marked, pending, hostRestartReplyLeft_hard,
      startTransmit_deaf (by rw [enterPowerCycle_host]; rfl)]
    rfl

/-! ### Restarts (O43, O44) -/

theorem requestAfter_left {new : HostState} {s : State} (leaves : new.running = false) :
    requestAfter new s = if s.hpc.host.running then none else s.hpc.pendingRestart := by
  simp only [requestAfter, leaves, Bool.not_false, Bool.and_true]

/-- A host restart event where only the Host Power Controller has changed before it. -/
theorem moveHost_event_hpc {new : HostState} (event : new.restartEvent = true) (s : State) {h : Hpc}
    (host : h.host = s.hpc.host) :
    moveHost new { s with hpc := h } =
      { silenced s with
        hpc := { h with
          host := new, beat := none, lastSeq := none
          pendingRestart := if s.hpc.host.running then none else h.pendingRestart }
        heat := budgeted new s
        keymap := unreported s
        outs := if new.keepWarm then { s.outs with hostWord := 0 } else s.outs } := by
  have keymap : unreported { s with hpc := h } = unreported s := by simp only [unreported, host]
  rw [moveHost_restartEvent event, budgeted_hpc new s host, keymap,
    requestAfter_left (HostState.not_running_of_restartEvent event)]
  simp only [silenced, host]

theorem softRestart_shape (cause : RestartCause) {s : State} (running : s.hpc.host.running = true) :
    softRestart cause s =
      { silenced s with
        hpc := { logged cause .soft s.hpc.hardList.length s.hpc.softCount s with
          host := .restart, hostReset := true, beat := none, lastSeq := none, pendingRestart := none
          bootTimer := none, heartbeatTimer := none, graceTimer := none, stableTimer := none
          pulseTimer := some { start := s.now, span := ms s.hpc.ladder.resetPulse } }
        heat := budgeted .restart s
        keymap := unreported s } := by
  rw [softRestart_eq, moveHost_event_hpc (new := .restart) rfl s (h := softResetHpc cause s) rfl, running]
  rfl

theorem escalate_soft {cause : RestartCause} {s : State} (h : s.hpc.softCount < s.hpc.ladder.maxSoft) :
    escalate cause s = softRestart cause { s with hpc := { s.hpc with softCount := s.hpc.softCount + 1 } } := if_pos h

theorem escalate_hard {cause : RestartCause} {s : State} (h : s.hpc.ladder.maxSoft ≤ s.hpc.softCount) :
    escalate cause s = hardDecision cause s := if_neg (Nat.not_lt.mpr h)

theorem exec_bootWindowExpiry {s : State} {t : Timer} (host : s.hpc.host = .boot) (runs : s.hpc.bootTimer = some t) :
    exec .bootWindowExpiry s = .next (escalate .bootTimeout { s with now := max s.now t.deadline }) :=
  exec_expiry_deaf (timer := fun s => if s.hpc.host = .boot then s.hpc.bootTimer else none)
    (calm_of_host (by rw [host]; decide)) ((if_pos host).trans runs) rfl (escalate_deaf ..)

theorem exec_graceExpiry {s : State} {t : Timer} (host : s.hpc.host = .warn) (runs : s.hpc.graceTimer = some t) :
    exec .graceExpiry s = .next (escalate .watchdogExpiry { s with now := max s.now t.deadline }) :=
  exec_expiry_deaf (timer := fun s => if s.hpc.host = .warn then s.hpc.graceTimer else none)
    (calm_of_host (by rw [host]; decide)) ((if_pos host).trans runs) rfl (escalate_deaf ..)

/-- Settles O43. -/
theorem softRestartHoldsTheHostInReset : Obligations.SoftRestartHoldsTheHostInReset := by
  unfold Obligations.SoftRestartHoldsTheHostInReset
  refine ⟨fun s cause running => softRestart_shape cause running, fun s t attempts => ⟨fun host runs => ?_, fun host runs => ?_⟩,
    fun s => rfl⟩
  · exact (exec_bootWindowExpiry host runs).trans (congrArg Host.Outcome.next (escalate_soft attempts))
  · exact (exec_graceExpiry host runs).trans (congrArg Host.Outcome.next (escalate_soft attempts))

/-- R103's list: pruning never leaves more entries than the hard limit, so making room drops at most one. -/
theorem hardListAfter_eq {s : State} (bound : s.hpc.hardList.length ≤ s.hpc.ladder.hardLimit) :
    hardListAfter s =
      (if (s.hpc.hardList.filter fun u => uptime s - u ≤ 60 * s.hpc.ladder.hardWindow).length = s.hpc.ladder.hardLimit then
        (s.hpc.hardList.filter fun u => uptime s - u ≤ 60 * s.hpc.ladder.hardWindow).tail
      else s.hpc.hardList.filter fun u => uptime s - u ≤ 60 * s.hpc.ladder.hardWindow) ++ [uptime s] := by
  simp only [hardListAfter]
  generalize hyoung : (s.hpc.hardList.filter fun u => uptime s - u ≤ 60 * s.hpc.ladder.hardWindow) = young
  have few : young.length ≤ s.hpc.ladder.hardLimit := by
    rw [← hyoung]
    exact (List.length_filter_le _ _).trans bound
  by_cases full : young.length = s.hpc.ladder.hardLimit
  · rw [if_pos full, if_pos full.ge, full, Nat.add_sub_cancel_left, List.drop_one]
  · rw [if_neg full, if_neg (by omega)]

/-- The Host Power Controller at a hard-restart decision, its rails still on (R103, R104, R16). -/
def decidedHpc (cause : RestartCause) (action : RestartAction) (list : List Nat) (s : State) : Hpc :=
  { logged cause action list.length 0 s with
    hardList := list, softCount := 0, pulseTimer := none, drainTimer := none
    bootTimer := none, heartbeatTimer := none, graceTimer := none, stableTimer := none }

theorem decided_eq (cause : RestartCause) (action : RestartAction) (s : State) :
    decided cause action s = { s with hpc := decidedHpc cause action (hardListAfter s) s } := by
  simp only [decided, writeLog_eq, discardWatchdog_eq]
  rfl

theorem hardDecision_cases (cause : RestartCause) (s : State) :
    hardDecision cause s =
      if s.hpc.ladder.hardLimit ≤ (hardListAfter s).length then enterLockout (decided cause .lockout s)
      else enterPowerCycle (decided cause .hard s) := by
  simp only [hardDecision]
  by_cases lock : s.hpc.ladder.hardLimit ≤ (hardListAfter s).length
  · simp only [lock, decide_true, if_true]
    rfl
  · simp only [lock, decide_false, Bool.false_eq_true, if_false]
    rfl

/-- The lockout retry timer as it is started (R105). -/
def retryFrom (l : LadderRecord) (now : Nat) : Option Timer :=
  match l.policy with
  | .autoRetry => some { start := now, span := minutes l.retry }
  | .waitService => none

/-- The Host Power Controller when the rails drop into LOCKOUT (R105). -/
def lockoutHpc (h : Hpc) (now : Nat) : Hpc :=
  { h with
    enables := #v[false, false, false], up := #v[false, false, false], hostReset := true, railStep := none
    retryTimer := retryFrom h.ladder now }

theorem enterLockout_eq (s : State) : enterLockout s = moveHost .lockout { s with hpc := lockoutHpc s.hpc s.now } := rfl

/-- The Host Power Controller after a hard-restart decision (R103 to R105). -/
def droppedHpc (cause : RestartCause) (action : RestartAction) (target : HostState) (list : List Nat)
    (powerOff retry : Option Timer) (s : State) : Hpc :=
  { logged cause action list.length 0 s with
    host := target, hardList := list, softCount := 0, hostReset := true, enables := #v[false, false, false]
    up := #v[false, false, false], railStep := none, beat := none, lastSeq := none
    pendingRestart := if s.hpc.host.running then none else s.hpc.pendingRestart
    bootTimer := none, heartbeatTimer := none, graceTimer := none, stableTimer := none, pulseTimer := none
    drainTimer := none, powerOffTimer := powerOff, retryTimer := retry }

theorem lockedOut_shape (cause : RestartCause) (s : State) :
    enterLockout (decided cause .lockout s) =
      { silenced s with
        hpc := droppedHpc cause .lockout .lockout (hardListAfter s) s.hpc.powerOffTimer (retryFrom s.hpc.ladder s.now) s
        heat := budgeted .lockout s, keymap := unreported s, outs := { s.outs with hostWord := 0 } } := by
  rw [enterLockout_eq, decided_eq,
    moveHost_event_hpc (new := .lockout) rfl s
      (h := lockoutHpc (decidedHpc cause .lockout (hardListAfter s) s) s.now) rfl]
  rfl

theorem powerCycled_shape (cause : RestartCause) (s : State) :
    enterPowerCycle (decided cause .hard s) =
      { silenced s with
        hpc := droppedHpc cause .hard .powerCycle (hardListAfter s)
          (some { start := s.now, span := sec s.hpc.ladder.powerOffTime }) s.hpc.retryTimer s
        heat := budgeted .powerCycle s, keymap := unreported s, outs := { s.outs with hostWord := 0 } } := by
  rw [enterPowerCycle_eq, decided_eq,
    moveHost_event_hpc (new := .powerCycle) rfl s
      (h := powerCycleHpc (decidedHpc cause .hard (hardListAfter s) s) s.now) rfl]
  rfl

/-- Settles O44. -/
theorem hardDecisionPrunesAppendsAndChooses : Obligations.HardDecisionPrunesAppendsAndChooses := by
  unfold Obligations.HardDecisionPrunesAppendsAndChooses
  refine ⟨fun s cause bound => ?_, fun s t spent => ⟨fun host runs => ?_, fun host runs => ?_⟩⟩
  · intro young list lock target q l retry limit
    have listed : hardListAfter s = list := hardListAfter_eq bound
    have few : young.length ≤ s.hpc.ladder.hardLimit := (List.length_filter_le _ _).trans bound
    have short : list.length ≤ s.hpc.ladder.hardLimit := by
      simp only [list, List.length_append, List.length_singleton]
      split
      · next full => rw [List.length_tail]; omega
      · omega
    rw [hardDecision_cases, listed]
    by_cases full : list.length = s.hpc.ladder.hardLimit
    · have locks : lock = true := decide_eq_true full
      rw [if_pos full.ge, lockedOut_shape, listed]
      simp only [l, target, locks, if_true]
      rfl
    · have cycles : lock = false := decide_eq_false full
      rw [if_neg (by omega), powerCycled_shape, listed]
      simp only [l, target, cycles, Bool.false_eq_true, if_false]
      rfl
  · exact (exec_bootWindowExpiry host runs).trans (congrArg Host.Outcome.next (escalate_hard spent))
  · exact (exec_graceExpiry host runs).trans (congrArg Host.Outcome.next (escalate_hard spent))

end Sys2Proof.Machine
end

section
/-! SUPPORT. Rail faults and the host's timers (O45, O46). -/

namespace Sys2Proof.Machine
open Sys2Proof

/-! ### Rail faults (O45) -/

theorem railFault_deaf (k : Rail) (s : State) : (railFault k s).hpc.host.delivers = false := hardDecision_deaf ..

theorem finish_railFault (k : Rail) (s : State) : finish (railFault k s) = .next (railFault k s) := by
  rw [finish, startTransmit_deaf (railFault_deaf k s)]

theorem railWatched_iff (s : State) :
    railWatched s = true ↔ s.hpc.host = .rails ∨ s.hpc.host = .boot ∨ s.hpc.host = .run ∨ s.hpc.host = .warn
      ∨ s.hpc.host = .restart ∨ (s.hpc.host = .drain ∧ s.hpc.railOff = false) := by
  unfold railWatched
  cases s.hpc.host <;> simp

theorem exec_pgTimeoutExpiry {s : State} {st : RailStep} (step : s.hpc.railStep = some st) (host : s.hpc.host = .rails)
    (waits : st.phase = .waitPg) :
    exec .pgTimeoutExpiry s = .next (railFault st.rail { s with now := max s.now st.timer.deadline }) := by
  change execPgTimeoutExpiry s = _
  rw [execPgTimeoutExpiry, upon_calm (calm_of_host (by rw [host]; decide))]
  simp only [step]
  rw [if_pos ⟨host, waits⟩]
  exact finish_railFault ..

theorem exec_powerGoodFall {s : State} (calm : Calm s) (k : Rail) :
    exec (.powerGoodFall k) s =
      if s.hpc.enables[k] && s.hpc.up[k] && railWatched s then
        .next (railFault k { s with hpc := { s.hpc with powerGood := vset s.hpc.powerGood k false } })
      else .next (startTransmit { s with hpc := { s.hpc with powerGood := vset s.hpc.powerGood k false } }) := by
  change execPowerGoodFall k s = _
  rw [execPowerGoodFall, upon_calm calm]
  simp only [finish_railFault]
  rfl

/-- Settles O45. -/
theorem railFaultsTakeTheHardDecision : Obligations.RailFaultsTakeTheHardDecision := by
  unfold Obligations.RailFaultsTakeTheHardDecision
  intro s fault
  refine ⟨fun st step host waits => exec_pgTimeoutExpiry step host waits, fun k => ?_⟩
  intro low watched
  refine ⟨fun calm on up isWatched => ?_, fun calm free => ?_⟩
  · have faulty : (s.hpc.enables[k] && s.hpc.up[k] && railWatched s) = true := by
      simp only [on, up, (railWatched_iff s).mpr isWatched, Bool.and_self]
    rw [exec_powerGoodFall calm, if_pos faulty]
    rfl
  · have harmless : ¬ (s.hpc.enables[k] && s.hpc.up[k] && railWatched s) = true := by
      simp only [Bool.and_eq_true]
      rintro ⟨⟨on, up⟩, isWatched⟩
      revert isWatched
      exact mt (railWatched_iff s).mp ((free.resolve_left (by rw [on]; decide)).resolve_left (by rw [up]; decide))
    rw [exec_powerGoodFall calm, if_neg harmless]

/-! ### The host's timers (O46) -/

/-- The state in WARN, before its notice (R97). -/
def inWarn (s : State) : State :=
  { s with hpc := { s.hpc with
      host := .warn, heartbeatTimer := none, graceTimer := some { start := s.now, span := ms s.hpc.ladder.grace } } }

/-- A mild change of host state between two states with one budget, where only the Host Power Controller has changed before
it. -/
theorem moveHost_free {old new : HostState} (mild : old.mild new = true)
    (budget : ∀ b : BudgetRecord, b.inForce old = b.inForce new) {s : State} (host : s.hpc.host = old) {h : Hpc}
    (same : h.host = s.hpc.host) :
    moveHost new { s with hpc := h } = { s with hpc := { h with host := new } } := by
  have kept : s.heat.budget.inForce s.hpc.host ≤ s.heat.budget.inForce new := by rw [host, budget]
  rw [moveHost_mild mild (s := { s with hpc := h }) (same.trans host), budgeted_hpc new s same, budgeted_kept kept]

theorem moveHost_warn {s : State} (host : s.hpc.host = .run) :
    moveHost .warn { s with hpc := { s.hpc with
        heartbeatTimer := none, graceTimer := some (startTimer s (ms s.hpc.ladder.grace)) } } = inWarn s :=
  moveHost_free (old := .run) (new := .warn) (by decide) (fun _ => rfl) host rfl

/-- The WATCHDOG_WARN notice of R97. -/
def warning (s : State) : Notice :=
  .watchdogWarn (uptime s) (sinceHeartbeat s) s.hpc.ladder.grace s.hpc.softCount s.hpc.ladder.maxSoft

theorem enterWarn_eq {s : State} (host : s.hpc.host = .run) :
    enterWarn s =
      if s.hpc.ladder.grace = 0 then escalate .watchdogExpiry (handNotice (warning s) (inWarn s))
      else handNotice (warning s) (inWarn s) := by
  simp only [enterWarn, moveHost_warn host, handNotice_hpc]
  rfl

theorem enterBoot_eq {s : State} (host : s.hpc.host = .rails ∨ s.hpc.host = .restart) :
    enterBoot s =
      { s with
        hpc := { s.hpc with
          host := .boot, hostReset := false, railStep := none, pulseTimer := none
          bootTimer := some { start := s.now, span := sec s.hpc.ladder.bootWindow } }
        panel := { s.panel with partialFrame := [] } } := by
  have running : s.hpc.host.running = false := by obtain h | h := host <;> rw [h] <;> rfl
  have keys : s.hpc.host.keysReported = false := by obtain h | h := host <;> rw [h] <;> rfl
  have deaf : s.hpc.host.delivers = false := by obtain h | h := host <;> rw [h] <;> rfl
  have kept : budgeted .boot s = s.heat :=
    budgeted_kept (by obtain h | h := host <;> rw [h] <;> exact Nat.le_refl _)
  rw [enterBoot, moveHost_plain (new := .boot) rfl, budgeted_hpc .boot s, kept]
  · simp only [keymapAfter, unreported, partialAfter, requestAfter, running, keys, deaf]
    rfl
  · rfl

theorem beginRailStep_host (k : Rail) (s : State) : (beginRailStep k s).hpc.host = s.hpc.host := by
  simp only [beginRailStep]
  split <;> rfl

theorem enterRails_host (kind : StartKind) (s : State) : (enterRails kind s).hpc.host = .rails := by
  simp only [enterRails]
  split
  · rw [beginRailStep_host, moveHost_host]
  · exact moveHost_host ..

theorem enterSoak_deaf (s : State) : (enterSoak s).hpc.host.delivers = false := by
  simp only [enterSoak]
  split
  · rw [completeSoak, enterRails_host]
    rfl
  · rw [moveHost_host]
    rfl

theorem evaluateGate_deaf {s : State} (h : s.hpc.host.delivers = false) : (evaluateGate s).hpc.host.delivers = false := by
  unfold evaluateGate
  split
  · split
    · exact enterSoak_deaf s
    · exact h
  · split
    · exact h
    · rw [moveHost_host]
      rfl
  all_goals exact h

theorem enterPreheat_deaf (s : State) : (enterPreheat s).hpc.host.delivers = false := by
  rw [enterPreheat_eq]
  exact evaluateGate_deaf (by rw [moveHost_host]; rfl)

/-- Settles O46. -/
theorem hostTimersMoveTheHost : Obligations.HostTimersMoveTheHost := by
  unfold Obligations.HostTimersMoveTheHost
  intro s t u since warned
  have noticed (host : s.hpc.host = .run) : enterWarn u =
      if s.hpc.ladder.grace = 0 then escalate .watchdogExpiry warned else warned := enterWarn_eq host
  have elapsed (host : s.hpc.host = .run) (runs : s.hpc.heartbeatTimer = some t) :
      exec .heartbeatTimerExpiry s = .next (startTransmit (enterWarn u)) :=
    exec_expiry (timer := fun s => if s.hpc.host = .run then s.hpc.heartbeatTimer else none)
      (calm_of_host (by rw [host]; decide)) ((if_pos host).trans runs) rfl
  refine ⟨fun host runs grace => ?_, fun host runs grace => ?_, fun host runs => ?_, fun host runs => ?_, fun host runs => ?_,
    fun host runs => ?_⟩
  · rw [elapsed host runs, noticed host, if_neg grace]
  · rw [elapsed host runs, noticed host, if_pos grace, startTransmit_deaf (escalate_deaf ..)]
  · have keys : s.hpc.host.keysReported = true := by obtain h | h := host <;> rw [h] <;> rfl
    exact exec_expiry (timer := fun s => if s.hpc.host.keysReported then s.hpc.stableTimer else none)
      (act := fun s => { s with hpc.softCount := 0, hpc.stableTimer := none })
      (calm_of_host (by obtain h | h := host <;> rw [h] <;> decide)) ((if_pos keys).trans runs) rfl
  · have boots : enterBoot u = _ := enterBoot_eq (.inr host)
    rw [← boots]
    exact exec_expiry (timer := fun s => if s.hpc.host = .restart then s.hpc.pulseTimer else none)
      (calm_of_host (by rw [host]; decide)) ((if_pos host).trans runs) rfl
  · exact exec_expiry_deaf (timer := fun s => if s.hpc.host = .powerCycle then s.hpc.powerOffTimer else none)
      (calm_of_host (by rw [host]; decide)) ((if_pos host).trans runs) rfl (enterPreheat_deaf _)
  · exact exec_expiry_deaf (timer := fun s => if s.hpc.host = .lockout then s.hpc.retryTimer else none) (act := exitLockout)
      (calm_of_host (by rw [host]; decide)) ((if_pos host).trans runs) rfl (enterPreheat_deaf _)

end Sys2Proof.Machine
end

section
/-! SUPPORT. The cold start: the gate and the rail steps (O48, O49). -/

namespace Sys2Proof.Machine
open Sys2Proof

/-! ### Gate readings (R5) -/

theorem gateReading_eq (s : State) (z : Zone) : gateReading s z = gateValue s z := by
  simp only [gateReading, zoneReading, channelReading, gateValue]
  generalize s.probe.table[s.heat.records[z].channel] = e
  generalize s.probe.chans[s.heat.records[z].channel] = c
  by_cases usable : (e.valid && e.kind = .temperature) = true
  · simp only [usable, if_true]
    simp only [Bool.and_eq_true, decide_eq_true_eq] at usable
    cases c.last <;> cases hm : c.missing <;> simp [usable]
  · simp only [usable, Bool.false_eq_true, if_false]
    rw [if_neg]
    rintro ⟨valid, kind, _⟩
    exact usable (by simp [valid, kind])

theorem gatedZones_all (s : State) (f : Zone → Bool) :
    (gatedZones s).all f = true ↔ ∀ z : Zone, s.heat.records[z].gateMask = true → f z = true := by
  simp only [gatedZones, List.all_eq_true, List.mem_filter, mem_allZones, true_and]

/-! ### A mild change after a change of the Host Power Controller -/

theorem moveHost_mild_hpc {old new : HostState} (mild : old.mild new = true) {s : State} (host : s.hpc.host = old) {h : Hpc}
    (same : h.host = s.hpc.host) :
    moveHost new { s with hpc := h } = { s with hpc := { h with host := new }, heat := budgeted new s } := by
  rw [moveHost_mild mild (s := { s with hpc := h }) (same.trans host), budgeted_hpc new s same]

/-! ### The gate (O48) -/

/-- The state in SOAK, its timer started (R7). -/
def soaking (s : State) : State :=
  { s with hpc := { s.hpc with
      host := .soak, soakTimer := some { start := s.now, span := sec s.hpc.sequence.soakTime } } }

theorem enterSoak_eq {s : State} (host : s.hpc.host = .preheat) :
    enterSoak s = if s.hpc.sequence.soakTime = 0 then enterRails .normal (soaking s) else soaking s := by
  have moved : moveHost .soak { s with hpc := { s.hpc with
      soakTimer := some (startTimer s (sec s.hpc.sequence.soakTime)) } } = soaking s :=
    moveHost_free (old := .preheat) (new := .soak) (by decide) (fun _ => rfl) host rfl
  simp only [enterSoak, moved]
  rfl

theorem evaluateGate_preheat {s : State} (host : s.hpc.host = .preheat) :
    evaluateGate s = if allWarm s then enterSoak s else s := by
  unfold evaluateGate
  rw [host]

theorem evaluateGate_soak {s : State} (host : s.hpc.host = .soak) :
    evaluateGate s =
      if holdSucceeds s then s else { s with hpc := { s.hpc with host := .preheat, soakTimer := none } } := by
  have moved : moveHost .preheat { s with hpc := { s.hpc with soakTimer := none } } =
      { s with hpc := { s.hpc with host := .preheat, soakTimer := none } } :=
    moveHost_free (old := .soak) (new := .preheat) (by decide) (fun _ => rfl) host rfl
  unfold evaluateGate
  rw [host]
  simp only [moved]

theorem evaluateGate_other {s : State} (preheat : s.hpc.host ≠ .preheat) (soak : s.hpc.host ≠ .soak) : evaluateGate s = s := by
  unfold evaluateGate
  split
  · next h => exact absurd h preheat
  · next h => exact absurd h soak
  all_goals rfl

theorem enterPreheat_shape {s : State} (warm : s.hpc.host.keepWarm = true) :
    enterPreheat s = evaluateGate
      { s with
        heat := budgeted .preheat s
        hpc := { s.hpc with
          host := .preheat, suppress := false, start := { s.hpc.start with failedTests := 0 }
          preheatTimer := some { start := s.now, span := sec s.hpc.sequence.preheatTimeout }
          powerOffTimer := none, retryTimer := none } } := by
  have mild : s.hpc.host.mild .preheat = true := by
    revert warm
    cases s.hpc.host <;> decide
  rw [enterPreheat_eq, preheating, moveHost_mild_hpc mild rfl]
  · rfl
  · rfl

theorem exec_wakeEdge {s : State} (calm : Calm s) : exec .wakeEdge s = .next (startTransmit (wakeRequest s)) := by
  change execWakeEdge s = _
  rw [execWakeEdge, upon_calm calm]
  rfl

/-- A timer of PREHEAT or SOAK leads where no frame is begun. -/
theorem exec_preheatTimerExpiry {s : State} {t : Timer} (host : s.hpc.host = .preheat ∨ s.hpc.host = .soak)
    (runs : s.hpc.preheatTimer = some t) :
    exec .preheatTimerExpiry s = .next (forcedStartTest { s with now := max s.now t.deadline }) := by
  have calm : Calm s := calm_of_host (by obtain h | h := host <;> rw [h] <;> decide)
  refine exec_expiry_deaf (timer := fun s => if s.hpc.host = .preheat ∨ s.hpc.host = .soak then s.hpc.preheatTimer else none)
    calm ((if_pos host).trans runs) rfl ?_
  unfold forcedStartTest
  split
  · rw [enterRails_host]
    rfl
  · change s.hpc.host.delivers = false
    obtain h | h := host <;> rw [h] <;> rfl

/-- Settles O48. -/
theorem gateDecidesTheStart : Obligations.GateDecidesTheStart := by
  unfold Obligations.GateDecidesTheStart
  intro s reads warm hold startable soak preheat
  have warmIff : allWarm s = true ↔ warm := by
    rw [allWarm, gatedZones_all]
    simp only [gateReading_eq]
    exact Iff.rfl
  have holdIff : holdSucceeds s = true ↔ hold := by
    rw [holdSucceeds, gatedZones_all]
    simp only [gateReading_eq]
    exact Iff.rfl
  have startIff : forcedStartPasses s = true ↔ startable := by
    rw [forcedStartPasses, gatedZones_all]
    simp only [gateReading_eq]
    exact Iff.rfl
  refine ⟨fun host cold => ?_, fun host isWarm long => ?_, fun host isWarm zero => ?_, fun host holds => ?_, fun host fails => ?_,
    fun h1 h2 => evaluateGate_other h1 h2, fun keepWarm => enterPreheat_shape keepWarm, fun host on => ?_, fun calm other => ?_,
    fun host => if_pos host, fun host => if_neg host, fun t => ?_⟩
  · rw [evaluateGate_preheat host, if_neg (mt warmIff.mp cold)]
  · rw [evaluateGate_preheat host, if_pos (warmIff.mpr isWarm), enterSoak_eq host, if_neg long]
    rfl
  · rw [evaluateGate_preheat host, if_pos (warmIff.mpr isWarm), enterSoak_eq host, if_pos zero]
    rfl
  · rw [evaluateGate_soak host, if_pos (holdIff.mpr holds)]
  · rw [evaluateGate_soak host, if_neg (mt holdIff.mp fails)]
  · rw [exec_wakeEdge (calm_of_host (by rw [host]; decide)), wakeRequest, if_pos ⟨host, on⟩,
      startTransmit_deaf (enterPreheat_deaf s)]
  · rw [exec_wakeEdge calm, wakeRequest, if_neg]
    rintro ⟨host, on⟩
    exact other.elim (· host) (· on)
  · intro u
    refine ⟨fun host runs => ?_, fun host runs starts => ?_, fun host runs fails => ?_⟩
    · exact exec_expiry_deaf (timer := fun s => if s.hpc.host = .soak then s.hpc.soakTimer else none) (act := completeSoak)
        (calm_of_host (by rw [host]; decide)) ((if_pos host).trans runs) rfl (by rw [completeSoak, enterRails_host]; rfl)
    · have passes : forcedStartPasses u = true := startIff.mpr starts
      rw [exec_preheatTimerExpiry host runs]
      exact congrArg Host.Outcome.next (if_pos passes)
    · have fails : ¬ forcedStartPasses u = true := mt startIff.mp fails
      rw [exec_preheatTimerExpiry host runs]
      exact congrArg Host.Outcome.next (if_neg fails)

/-! ### The rail steps (O49) -/

theorem allRails_split : ∀ k : Rail, allRails = allRails.take k.val ++ k :: allRails.drop (k.val + 1) := by decide

theorem lt_of_mem_take : ∀ k j : Rail, j ∈ allRails.take k.val → j < k := by decide

theorem mem_allRails : ∀ k : Rail, k ∈ allRails := by decide

theorem railFrom_some {mask : Vector Bool 3} {n : Nat} {k : Rail} (reached : n ≤ k.val) (on : mask[k] = true)
    (first : ∀ j : Rail, n ≤ j.val → j < k → mask[j] = false) : railFrom mask n = some k := by
  rw [railFrom, List.head?_filter, List.find?_eq_some_iff_append]
  refine ⟨by rw [decide_eq_true reached, on]; rfl, _, _, allRails_split k, fun j hj => ?_⟩
  by_cases h : n ≤ j.val
  · rw [first j h (lt_of_mem_take k j hj), Bool.and_false]
    rfl
  · rw [decide_eq_false h]
    rfl

theorem railFrom_none {mask : Vector Bool 3} {n : Nat} (off : ∀ k : Rail, n ≤ k.val → mask[k] = false) :
    railFrom mask n = none := by
  rw [railFrom, List.head?_filter, List.find?_eq_none]
  intro k _
  by_cases h : n ≤ k.val
  · simp [off k h]
  · simp [h]

/-- The Host Power Controller at an entry into RAILS (R11). -/
def startedHpc (kind : StartKind) (s : State) : Hpc :=
  { s.hpc with
    start := startRecord kind s, maskInUse := s.hpc.sequence.railMask, soakTimer := none, preheatTimer := none }

theorem enterRails_eq (kind : StartKind) {s : State} (host : s.hpc.host = .preheat ∨ s.hpc.host = .soak) {k : Rail}
    (lowest : railFrom s.hpc.sequence.railMask 0 = some k) :
    enterRails kind s = beginRailStep k
      { s with hpc := { startedHpc kind s with host := .rails }, heat := budgeted .rails s } := by
  have moved : moveHost .rails { s with hpc := startedHpc kind s } =
      { s with hpc := { startedHpc kind s with host := .rails }, heat := budgeted .rails s } :=
    moveHost_mild_hpc (by obtain h | h := host <;> rw [h] <;> decide) rfl rfl
  have entered : enterRails kind s =
      match railFrom (moveHost .rails { s with hpc := startedHpc kind s }).hpc.maskInUse 0 with
      | some k => beginRailStep k (moveHost .rails { s with hpc := startedHpc kind s })
      | none => moveHost .rails { s with hpc := startedHpc kind s } := rfl
  rw [entered, moved]
  have mask : railFrom (startedHpc kind s).maskInUse 0 = some k := lowest
  simp only [mask]

theorem startRecord_eq (kind : StartKind) (s : State) :
    startRecord kind s =
      { kind := kind, uptime := uptime s
        lowest := ((allZones.filter fun z => s.heat.records[z].gateMask).filterMap (gateValue s)).min?
        failedTests := s.hpc.start.failedTests } := by
  have readings : (gatedZones s).map (gateReading s) = (gatedZones s).map (gateValue s) :=
    List.map_congr_left fun z _ => gateReading_eq s z
  simp only [startRecord, lowestOf, readings, List.filterMap_map]
  rfl

theorem exec_powerGoodArrival {s : State} (calm : Calm s) (k : Rail) :
    exec (.powerGoodArrival k) s = finish (match s.hpc.railStep with
      | some st =>
        if s.hpc.host = .rails ∧ st.rail = k ∧ st.phase = .waitPg then
          railUp k { s with hpc := { s.hpc with powerGood := vset s.hpc.powerGood k true } }
        else { s with hpc := { s.hpc with powerGood := vset s.hpc.powerGood k true } }
      | none => { s with hpc := { s.hpc with powerGood := vset s.hpc.powerGood k true } }) := by
  change execPowerGoodArrival k s = _
  rw [execPowerGoodArrival, upon_calm calm]
  cases s.hpc.railStep with
  | none => rfl
  | some st =>
    simp only
    split <;> rfl

theorem exec_settleExpiry {s : State} {st : RailStep} (step : s.hpc.railStep = some st) (host : s.hpc.host = .rails)
    (settles : st.phase = .settle) :
    exec .settleExpiry s = finish (settleEnds st.rail { s with now := max s.now st.timer.deadline }) := by
  change execSettleExpiry s = _
  rw [execSettleExpiry, upon_calm (calm_of_host (by rw [host]; decide))]
  simp only [step]
  rw [if_pos ⟨host, settles⟩]
  rfl

/-- Settles O49. -/
theorem railStepsRunInOrder : Obligations.RailStepsRunInOrder := by
  unfold Obligations.RailStepsRunInOrder
  intro s lows entered waits settles
  refine ⟨fun kind k host on first => ?_, fun k => ?_, fun st step host phase => ?_⟩
  · rw [enterRails_eq kind host (railFrom_some (Nat.zero_le _) on fun j _ => first j)]
    simp only [startedHpc, startRecord_eq]
    rfl
  · intro high
    refine ⟨fun low => ?_, fun good => ?_, fun st step => ⟨?_, ?_⟩, fun calm none => ?_⟩
    · rw [beginRailStep, low]
      rfl
    · rw [beginRailStep, good]
      rfl
    · rintro here
      obtain ⟨host, _⟩ := id here
      rw [exec_powerGoodArrival (calm_of_host (by rw [host]; decide)), step]
      simp only [if_pos here]
      have deaf : (settles k high).hpc.host.delivers = false := by
        change s.hpc.host.delivers = false
        rw [host]
        rfl
      exact congrArg Host.Outcome.next (startTransmit_deaf deaf)
    · intro calm elsewhere
      rw [exec_powerGoodArrival calm, step]
      simp only [if_neg elsewhere]
      rfl
    · rw [exec_powerGoodArrival calm, none]
      rfl
  · intro u
    refine ⟨fun k above on first => ?_, fun off => ?_⟩
    · have next : railFrom s.hpc.maskInUse (st.rail.val + 1) = some k := railFrom_some above on fun j hj => first j hj
      rw [exec_settleExpiry step host phase, settleEnds]
      simp only [next]
      have deaf : (beginRailStep k u).hpc.host.delivers = false := by
        rw [beginRailStep_host]
        change s.hpc.host.delivers = false
        rw [host]
        rfl
      exact congrArg Host.Outcome.next (startTransmit_deaf deaf)
    · have last : railFrom s.hpc.maskInUse (st.rail.val + 1) = none := railFrom_none fun k hk => off k hk
      rw [exec_settleExpiry step host phase, settleEnds]
      simp only [last]
      exact congrArg finish (enterBoot_eq (s := u) (.inl host))

end Sys2Proof.Machine
end

section
/-! SUPPORT. DRAIN: the wait phase, the drain timer, rail-off (O47). -/

namespace Sys2Proof.Machine
open Sys2Proof

/-! ### The rails released one by one (R20) -/

/-- A line of each rail once the highest rail that is on has been released. -/
def released (enables line : Vector Bool 3) : Vector Bool 3 :=
  match highestRail enables with
  | some k => vset line k false
  | none => line

theorem rails_eta (v : Vector Bool 3) : v = #v[v[0], v[1], v[2]] := by
  ext k hk
  interval_cases k <;> rfl

theorem released_bits : ∀ a b c x y z : Bool,
    released #v[a, b, c] #v[x, y, z] = #v[x && (b || c || !a), y && (c || !b), z && !c] := by decide

theorem released_eq (e v : Vector Bool 3) :
    released e v = #v[v[0] && (e[1] || e[2] || !e[0]), v[1] && (e[2] || !e[1]), v[2] && !e[2]] := by
  rw [rails_eta e, rails_eta v, released_bits]
  rfl

theorem highestRail_released_bits : ∀ a b c : Bool,
    (highestRail (released #v[a, b, c] #v[a, b, c])).isSome = ((a && b) || (a && c) || (b && c)) := by decide

theorem highestRail_released (e : Vector Bool 3) :
    (highestRail (released e e)).isSome = ((e[0] && e[1]) || (e[0] && e[2]) || (e[1] && e[2])) := by
  rw [rails_eta e, highestRail_released_bits]
  rfl

/-- The Host Power Controller with its highest rail released. -/
def releasedHpc (h : Hpc) : Hpc := { h with enables := released h.enables h.enables, up := released h.enables h.up }

theorem offSettleStep_eq (s : State) :
    offSettleStep s =
      if (highestRail (released s.hpc.enables s.hpc.enables)).isSome then
        { s with hpc := { releasedHpc s.hpc with
            offSettleTimer := some { start := s.now, span := ms s.hpc.sequence.offSettle } } }
      else moveHost .standby { s with hpc := { releasedHpc s.hpc with offSettleTimer := none, railOff := false } } := by
  cases top : highestRail s.hpc.enables with
  | none =>
    have kept (v : Vector Bool 3) : released s.hpc.enables v = v := by rw [released, top]
    simp only [offSettleStep, releasedHpc, kept, top, Option.isSome_none, Bool.false_eq_true, if_false]
  | some k =>
    have dropped (v : Vector Bool 3) : released s.hpc.enables v = vset v k false := by rw [released, top]
    simp only [offSettleStep, releasedHpc, dropped, top]
    cases next : highestRail (vset s.hpc.enables k false) with
    | none => simp only [Option.isSome_none, Bool.false_eq_true, if_false]
    | some j => rfl

/-! ### Entry into DRAIN (R17, R18) -/

/-- The state in DRAIN's wait phase (R18). -/
def drainingFrom (suppress : Bool) (s : State) : State :=
  { s with
    hpc := { s.hpc with
      host := .drain, railOff := false, pendingRestart := none, bootTimer := none, heartbeatTimer := none
      graceTimer := none, stableTimer := none, suppress := suppress
      drainTimer := some { start := s.now, span := ms s.hpc.sequence.drainTimeout } }
    heat := budgeted .drain s
    keymap := unreported s }

/-- The Host Power Controller at the entry into DRAIN. -/
def drainHpc (suppress : Bool) (s : State) : Hpc :=
  { unwatched s.hpc with
    railOff := false, suppress := suppress
    drainTimer := some { start := s.now, span := ms s.hpc.sequence.drainTimeout } }

theorem moveHost_drain (suppress : Bool) {s : State} (running : s.hpc.host.running = true) :
    moveHost .drain { s with hpc := drainHpc suppress s } = drainingFrom suppress s := by
  have delivers := HostState.delivers_of_running running
  rw [moveHost_plain (new := .drain) rfl, budgeted_hpc .drain s]
  · have request : requestAfter .drain { s with hpc := drainHpc suppress s } = none :=
      (requestAfter_left rfl).trans (if_pos running)
    have bytes : partialAfter .drain { s with hpc := drainHpc suppress s } = s.panel.partialFrame := by
      change (if s.hpc.host.delivers != true then [] else s.panel.partialFrame) = _
      rw [delivers]
      rfl
    rw [request, bytes]
    rfl
  · rfl

theorem relayReportsEmpty_drainingFrom (suppress : Bool) (s : State) :
    relayReportsEmpty (drainingFrom suppress s) = s.relay.queue.isEmpty := by
  simp only [relayReportsEmpty, drainingFrom, decide_true, Bool.not_false, Bool.true_and]

theorem enterDrain_eq {s : State} (running : s.hpc.host.running = true) :
    enterDrain s =
      if s.relay.queue = [] then beginRailOff (drainingFrom s.hpc.suppress s) else drainingFrom s.hpc.suppress s := by
  have moved : enterDrain s = reportRelayEmpty (drainingFrom s.hpc.suppress s) :=
    congrArg reportRelayEmpty (moveHost_drain s.hpc.suppress running)
  rw [moved, reportRelayEmpty, relayReportsEmpty_drainingFrom]
  simp only [List.isEmpty_iff]

theorem drainingFrom_suppressed (s : State) (suppress : Bool) :
    drainingFrom suppress { s with hpc := { s.hpc with suppress := suppress } } = drainingFrom suppress s := by
  simp only [drainingFrom, budgeted_hpc .drain s (h := { s.hpc with suppress := suppress }) rfl]
  rfl

theorem applyShutdown_accepted {s : State} {keep : Byte} (running : s.hpc.host.running = true) (flag : keep.toNat ≤ 1) :
    applyShutdown keep s =
      (if s.relay.queue = [] then beginRailOff (drainingFrom (if keep = 0 then true else s.hpc.suppress) s)
       else drainingFrom (if keep = 0 then true else s.hpc.suppress) s, .done) := by
  have small : ¬ 2 ≤ keep.toNat := by omega
  rw [applyShutdown, running, if_neg (by decide), if_neg small]
  by_cases zero : keep = 0
  · simp only [if_pos zero]
    rw [enterDrain_eq (s := { s with hpc := { s.hpc with suppress := true } }) running, drainingFrom_suppressed]
  · simp only [if_neg zero]
    rw [enterDrain_eq running]

/-! ### The drain timer (R19, R156) -/

theorem beginRailOff_startTransmit (s : State) : beginRailOff (startTransmit s) = startTransmit (beginRailOff s) := by
  unfold startTransmit beginRailOff
  split
  · split
    · rfl
    · split <;> rfl
  · rfl

theorem drainExpires_eq (s : State) :
    startTransmit (drainExpires s) = startTransmit (beginRailOff { s with
      relay := (silenced s).relay
      panel := { s.panel with replies := s.panel.replies ++ s.relay.queue.map abandonedReply } }) := by
  cases held : s.relay.queue with
  | nil =>
    simp only [drainExpires, held, List.foldl_nil, List.map_nil, List.append_nil]
    rfl
  | cons e rest =>
    simp only [drainExpires]
    rw [held, foldl_relayReply, abandonRelay_startTransmit, beginRailOff_startTransmit, startTransmit_idem]
    rfl

/-! ### DRAIN from beginning to end (O47) -/

/-- Settles O47. -/
theorem shutdownDrainsAndReleasesTheRails : Obligations.ShutdownDrainsAndReleasesTheRails := by
  unfold Obligations.ShutdownDrainsAndReleasesTheRails
  intro s off draining runs
  have runsIff : s.hpc.host.running = true ↔ runs := by
    simp only [runs]
    cases s.hpc.host <;> decide
  have isDraining (suppress : Bool) : draining suppress = drainingFrom suppress s := rfl
  have isOff (suppress : Bool) : off (draining suppress) = beginRailOff (drainingFrom suppress s) := rfl
  refine ⟨fun isRunning held => ?_, fun isRunning empty => ?_, fun stopped => ?_, fun tag keep ready => ?_,
    fun t calm host timer => ?_, fun t calm host timer => ?_⟩
  · rw [requestShutdown, if_pos (runsIff.mpr isRunning), enterDrain_eq (runsIff.mpr isRunning), if_neg held, isDraining]
  · rw [requestShutdown, if_pos (runsIff.mpr isRunning), enterDrain_eq (runsIff.mpr isRunning), if_pos empty, isOff]
  · rw [requestShutdown, if_neg (mt runsIff.mp stopped)]
  · intro drained
    have running (h : s.hpc.host ≠ .drain) : s.hpc.host.running = true := HostState.running_of_delivers ready.delivers h
    refine ⟨fun host => ?_, fun host other => ?_, fun host flag held => ?_, fun host flag empty => ?_⟩
    · refine exec_replied ready rfl ?_ ready.delivers (by decide)
      rw [applyShutdown, host]
      rfl
    · refine exec_repliedBad ready rfl ?_
      rw [applyShutdown, running host, if_neg (by decide), if_pos other]
    · have owner := applyShutdown_accepted (running host) flag
      rw [if_neg held] at owner
      exact exec_replied ready rfl owner rfl (by decide)
    · have owner := applyShutdown_accepted (running host) flag
      rw [if_pos empty] at owner
      exact exec_replied ready rfl owner rfl (by decide)
  · have expires : exec .drainTimerExpiry s = .next (startTransmit (drainExpires { s with now := max s.now t.deadline })) :=
      exec_expiry (timer := fun s => if s.hpc.host = .drain then s.hpc.drainTimer else none) calm
        ((if_pos host).trans timer) rfl
    rw [expires, drainExpires_eq]
    rfl
  · intro e drop now h q
    have expires : exec .offSettleExpiry s = .next (startTransmit (offSettleStep { s with now := now })) :=
      exec_expiry (timer := fun s => if s.hpc.host = .drain then s.hpc.offSettleTimer else none) calm
        ((if_pos host).trans timer) rfl
    have dropped : releasedHpc s.hpc = h := by
      simp only [releasedHpc, released_eq, h, drop]
      rfl
    have more : (highestRail (released s.hpc.enables s.hpc.enables)).isSome = true ↔
        ((e[0] && e[1]) || (e[0] && e[2]) || (e[1] && e[2])) = true := Bool.eq_iff_iff.mp (highestRail_released e)
    rw [expires, offSettleStep_eq]
    refine ⟨fun two => ?_, fun last => ?_⟩
    · rw [if_pos (more.mpr two)]
      simp only [dropped]
    · rw [if_neg (mt more.mp last)]
      have left := moveHost_event_hpc (new := .standby) rfl { s with now := now }
        (h := { releasedHpc s.hpc with offSettleTimer := none, railOff := false }) rfl
      have silent : unreported { s with now := now } = s.keymap := by
        simp only [unreported, host]
        rfl
      have stopped : ¬ s.hpc.host.running = true := by
        rw [host]
        decide
      refine congrArg Host.Outcome.next ((startTransmit_deaf (by rw [moveHost_host]; rfl)).trans (left.trans ?_))
      rw [silent, if_neg stopped, dropped]
      rfl

end Sys2Proof.Machine
end

section
/-! SUPPORT. Sample rules: trips, clears and the stale policies (O34); LOAD_ACTION (O24). -/

namespace Sys2Proof.Machine
open Sys2Proof

theorem vset_vset {α : Type} {n : Nat} (v : Vector α n) (i : Fin n) (x y : α) : vset (vset v i x) i y = vset v i y := by
  simp [vset]

theorem vset_same {α : Type} {n : Nat} (v : Vector α n) (i : Fin n) : vset v i v[i] = v := by
  simp [vset]

/-! ### The tests and the actions of a sample rule (R80 to R82) -/

theorem tripTest_iff (r : SampleRule) (v : Int) :
    tripTest r v = true ↔ (r.compare = .above ∧ r.threshold < v) ∨ (r.compare = .below ∧ v < r.threshold) := by
  cases h : r.compare <;> simp [tripTest, h]

theorem clearTest_iff (r : SampleRule) (v : Int) :
    clearTest r v = true ↔ (r.compare = .above ∧ v ≤ r.threshold - r.hysteresis)
      ∨ (r.compare = .below ∧ r.threshold + r.hysteresis ≤ v) := by
  cases h : r.compare <;> simp [clearTest, h]

theorem releaseLevel_applyLevel (a : LevelAction) (s : State) : releaseLevel a (applyLevel a s) = s := by
  cases a with
  | none => rfl
  | cutZone z =>
    simp only [releaseLevel, applyLevel, changeLevel, vset_self, vset_vset, Nat.add_sub_cancel]
    exact congrArg (fun v => { s with heat := { s.heat with zones := v } }) (vset_same s.heat.zones z)
  | forceOn o => simp only [releaseLevel, applyLevel, changeLevel, vset_self, vset_vset, Nat.add_sub_cancel, vset_same]
  | forceOff o => simp only [releaseLevel, applyLevel, changeLevel, vset_self, vset_vset, Nat.add_sub_cancel, vset_same]

theorem applyLevel_cutZone (z : Zone) (s : State) :
    (applyLevel (.cutZone z) s).heat.zones[z].cutDemand = s.heat.zones[z].cutDemand + 1 :=
  congrArg ZoneState.cutDemand (vset_self ..)

theorem applyLevel_forceOn (o : Fin 16) (s : State) :
    (applyLevel (.forceOn o) s).outs.forceOn[o] = s.outs.forceOn[o] + 1 := vset_self ..

theorem applyLevel_forceOff (o : Fin 16) (s : State) :
    (applyLevel (.forceOff o) s).outs.forceOff[o] = s.outs.forceOff[o] + 1 := vset_self ..

/-- What the edge action of a trip does to a state whose rule has `trips` (R81). -/
def edgeOf (i : Slot) (r : SampleRule) (cause : TripCause) (value : Option Int) (trips : Nat) (t : State) : State :=
  match r.edge with
  | .none => t
  | .setFlag f => { t with flags := t.flags ||| (1#4 <<< f.val) }
  | .clearFlag f => { t with flags := t.flags &&& ~~~(1#4 <<< f.val) }
  | .notify => handNotice (.rule i r.channel cause value trips) t

theorem tripRule_eq (i : Slot) (r : SampleRule) (cause : TripCause) (value : Option Int) (s : State) :
    tripRule i r cause value s =
      edgeOf i r cause value (min (s.acts.rules[i].trips + 1) 255)
        (applyLevel r.level (setRule i { tripped := true, trips := min (s.acts.rules[i].trips + 1) 255 } s)) := by
  have counted : (applyLevel r.level (setRule i { tripped := true, trips := min (s.acts.rules[i].trips + 1) 255 } s)).acts.rules[i]
      = { tripped := true, trips := min (s.acts.rules[i].trips + 1) 255 } := by
    rw [applyLevel, changeLevel_acts]
    exact vset_self ..
  simp only [tripRule, runEdge, edgeOf, counted]
  rfl

/-! ### One rule at a good sample and at a missing episode (O34) -/

section OneRule
variable {s : State} {i : Slot} {r : SampleRule}

theorem evaluateSlot_own (entry : s.acts.entries[i] = some (.sample r)) (v : Int) :
    evaluateSlot r.channel v s i =
      if condition s r.condition then reportSample i r v (activeRule i r v s) else inactiveRule i r s := by
  simp only [evaluateSlot, entry, if_true]

theorem evaluateSlot_foreign (entry : s.acts.entries[i] = some (.sample r)) {c : Channel} (other : c ≠ r.channel) (v : Int) :
    evaluateSlot c v s i = s := by
  simp only [evaluateSlot, entry, if_neg (Ne.symm other)]

theorem inactiveRule_tripped (tripped : s.acts.rules[i].tripped = true) : inactiveRule i r s = clearRule i r s := if_pos tripped

theorem inactiveRule_untripped (untripped : s.acts.rules[i].tripped = false) : inactiveRule i r s = s := by
  rw [inactiveRule, untripped]
  rfl

theorem activeRule_tripped (tripped : s.acts.rules[i].tripped = true) (v : Int) :
    activeRule i r v s = if clearTest r v then clearRule i r s else s := if_pos tripped

theorem activeRule_untripped (untripped : s.acts.rules[i].tripped = false) (v : Int) :
    activeRule i r v s = if tripTest r v then tripRule i r .sample (some v) s else s := by
  rw [activeRule, untripped]
  rfl

theorem staleRule_inactive (inactive : condition s r.condition = false) : staleRule i r s = inactiveRule i r s := by
  rw [staleRule, inactive]
  rfl

theorem staleRule_kept (active : condition s r.condition = true) (kept : r.stale = .hold ∨ s.acts.rules[i].tripped = true) :
    staleRule i r s = s := by
  rw [staleRule, if_pos active]
  cases policy : r.stale with
  | hold => rfl
  | trip => exact if_pos (kept.resolve_left (by rw [policy]; exact nofun))

theorem staleRule_trips (active : condition s r.condition = true) (policy : r.stale = .trip)
    (untripped : s.acts.rules[i].tripped = false) :
    staleRule i r s = tripRule i r .stale (s.probe.chans[r.channel].last.map Sample.value) s := by
  rw [staleRule, if_pos active, policy, untripped]
  rfl

end OneRule

/-- Settles O34: the two visits of a rule, case by case. -/
theorem sampleRulesTripAndClear : Obligations.SampleRulesTripAndClear := by
  unfold Obligations.SampleRulesTripAndClear
  refine ⟨fun s c => rfl, fun s i r entry v => ?_⟩
  intro x setTo cleared tripped edge report trips clears t
  have evaluated : t = _ := evaluateSlot_own entry v
  have trip (cause : TripCause) (value : Option Int) : tripRule i r cause value s = edge cause value tripped :=
    tripRule_eq i r cause value s
  refine ⟨fun inactive on => ?_, fun inactive off => ?_, fun active on clear => ?_, fun active on stays => ?_,
    fun active off trips => ?_, fun active off stays => ?_, fun c other => evaluateSlot_foreign entry other v,
    fun inactive on => ?_, fun inactive off => ?_, staleRule_kept, fun active policy off => ?_,
    releaseLevel_applyLevel r.level, fun z level => ?_, fun o level => ?_, fun o level => ?_⟩
  · rw [evaluated, inactive, if_neg (by decide), inactiveRule_tripped on]
    rfl
  · rw [evaluated, inactive, if_neg (by decide), inactiveRule_untripped off]
  · rw [evaluated, if_pos active, activeRule_tripped on, if_pos ((clearTest_iff r v).mpr clear)]
    rfl
  · rw [evaluated, if_pos active, activeRule_tripped on, if_neg (mt (clearTest_iff r v).mp stays)]
    rfl
  · rw [evaluated, if_pos active, activeRule_untripped off, if_pos ((tripTest_iff r v).mpr trips), trip]
    rfl
  · rw [evaluated, if_pos active, activeRule_untripped off, if_neg (mt (tripTest_iff r v).mp stays)]
    rfl
  · rw [staleRule_inactive inactive, inactiveRule_tripped on]
    rfl
  · rw [staleRule_inactive inactive, inactiveRule_untripped off]
  · rw [staleRule_trips active policy off, trip]
  · rw [show tripped = applyLevel (.cutZone z) _ from congrArg (applyLevel · _) level]
    exact applyLevel_cutZone ..
  · rw [show tripped = applyLevel (.forceOn o) _ from congrArg (applyLevel · _) level]
    exact applyLevel_forceOn ..
  · rw [show tripped = applyLevel (.forceOff o) _ from congrArg (applyLevel · _) level]
    exact applyLevel_forceOff ..

/-! ### LOAD_ACTION (O24) -/

theorem refillSlot_eq (i : Slot) (e : Option ActionEntry) (s : State) :
    refillSlot i e s = { releaseSlot i s with acts := { (releaseSlot i s).acts with
      entries := vset s.acts.entries i e, rules := vset s.acts.rules i RuleState.clear } } := by
  have acts : (releaseSlot i s).acts = s.acts := by rw [releaseSlot_eq]
  simp only [refillSlot, setRule, acts]

theorem replaceEntry_eq (i : Slot) (e : Option ActionEntry) (s : State) :
    replaceEntry i e s = startEpisode i e (refillSlot i e s) := rfl

theorem startEpisode_shape {s t : State} (probe : t.probe = s.probe) (i : Slot) (e : Option ActionEntry) :
    startEpisode i e t = match e with
      | some (.sample r) => if s.probe.chans[r.channel].missing then staleRule i r t else t
      | _ => t := by
  rw [← probe]
  rfl

/-! ### The host state under an action table's operations -/

theorem changeLevel_hpc (f : Nat → Nat) (a : LevelAction) (s : State) : (changeLevel f a s).hpc = s.hpc := by rw [changeLevel_eq]

theorem tripRule_hpc (i : Slot) (r : SampleRule) (cause : TripCause) (value : Option Int) (s : State) :
    (tripRule i r cause value s).hpc = s.hpc := by
  have applied (y : RuleState) : (applyLevel r.level (setRule i y s)).hpc = s.hpc := changeLevel_hpc ..
  rw [tripRule_eq, edgeOf]
  split
  · exact applied _
  · exact applied _
  · exact applied _
  · rw [handNotice_hpc]
    exact applied _

theorem inactiveRule_hpc (i : Slot) (r : SampleRule) (s : State) : (inactiveRule i r s).hpc = s.hpc := by
  unfold inactiveRule
  split
  · exact changeLevel_hpc ..
  · rfl

theorem staleRule_hpc (i : Slot) (r : SampleRule) (s : State) : (staleRule i r s).hpc = s.hpc := by
  unfold staleRule
  split
  · split
    · rfl
    · split
      · rfl
      · exact tripRule_hpc ..
  · exact inactiveRule_hpc ..

theorem replaceEntry_hpc (i : Slot) (e : Option ActionEntry) (s : State) : (replaceEntry i e s).hpc = s.hpc := by
  have released : (refillSlot i e s).hpc = s.hpc := by rw [refillSlot_eq, releaseSlot_eq]
  rw [replaceEntry_eq]
  unfold startEpisode
  split
  · split
    · rw [staleRule_hpc]
      exact released
    · exact released
  · exact released

theorem freeWay_some {s : State} {set : Fin 8} {w : Fin 4} (free : s.acts.lock ≤ w ∧ s.acts.entries[slotOf set w] = none)
    (first : ∀ v < w, ¬ (s.acts.lock ≤ v ∧ s.acts.entries[slotOf set v] = none)) : freeWay s set = some w := by
  have split : ∀ w : Fin 4, ([0, 1, 2, 3] : List (Fin 4)) = [0, 1, 2, 3].take w.val ++ w :: [0, 1, 2, 3].drop (w.val + 1) := by
    decide
  have before : ∀ w v : Fin 4, v ∈ ([0, 1, 2, 3] : List (Fin 4)).take w.val → v < w := by decide
  rw [freeWay, List.head?_filter, List.find?_eq_some_iff_append]
  refine ⟨by simpa using free, _, _, split w, fun v hv => ?_⟩
  rw [Bool.not_eq_true', Bool.eq_false_iff]
  intro here
  exact first v (before w v hv) (by simpa using here)

theorem freeWay_none {s : State} {set : Fin 8} (full : ∀ w : Fin 4, ¬ (s.acts.lock ≤ w ∧ s.acts.entries[slotOf set w] = none)) :
    freeWay s set = none := by
  rw [freeWay, List.head?_filter, List.find?_eq_none]
  intro w _
  simpa using full w

/-- Settles O24: `chooseWay` decides, `replaceEntry` carries it out. -/
theorem loadActionChoosesItsWay : Obligations.LoadActionChoosesItsWay := by
  unfold Obligations.LoadActionChoosesItsWay
  intro s tag l ready storing fits named free result done
  have owner : exec (.loadAction tag (actionBytes l)) s = upon s (supervisorOp tag 0x24 (applyLoadAction l)) :=
    load_exec ready storing (actionBytes_length l) (readAction_actionBytes fits named) rfl
  have replaced (w : Fin 4) : replaceEntry (slotOf l.set w) l.entry s = result w := by
    have probe : (refillSlot (slotOf l.set w) l.entry s).probe = s.probe := by rw [refillSlot_eq, releaseSlot_eq]
    rw [replaceEntry_eq, startEpisode_shape (s := s) probe, refillSlot_eq]
    rfl
  have delivers (w : Fin 4) : (result w).hpc.host.delivers = true := by
    rw [← replaced, replaceEntry_hpc]
    exact ready.delivers
  have goes (w : Fin 4) (chosen : chooseWay s l.set l.selector = .inl w) :
      exec (.loadAction tag (actionBytes l)) s = done w := by
    refine exec_replied ready owner ?_ (delivers w) (by decide)
    rw [applyLoadAction, chosen, ← replaced]
  have refused (st : Status) (chosen : chooseWay s l.set l.selector = .inr st) (other : st ≠ .badRequest) :
      exec (.loadAction tag (actionBytes l)) s = .next (replied tag st [] s) := by
    refine exec_replied ready owner ?_ ready.delivers other
    rw [applyLoadAction, chosen]
    rfl
  refine ⟨fun w named locked => refused .locked ?_ (by decide), fun w named unlocked => goes w ?_,
    fun any full => refused .tableFull ?_ (by decide), fun w any isFree first => goes w ?_⟩
  · rw [named, chooseWay, if_pos locked]
  · rw [named, chooseWay, if_neg (Fin.not_lt.mpr unlocked)]
  · rw [any, chooseWay, freeWay_none full]
  · rw [any, chooseWay, freeWay_some isFree first]

end Sys2Proof.Machine
end

section
/-! SUPPORT. The Keymap Unit: the termination check, layer events, presses and releases (O35 to O38); and the condition
codes (O39). -/

namespace Sys2Proof.Machine
open Sys2Proof

/-! ### Notices do not look at the keymap -/

theorem startTransmit_withKeymap (k : Keymap) (s : State) :
    startTransmit { s with keymap := k } = { startTransmit s with keymap := k } := by
  simp only [startTransmit]
  split
  · split
    · rfl
    · split <;> rfl
  · rfl

theorem dropNotice_withKeymap (code : Nat) (k : Keymap) (s : State) :
    dropNotice code { s with keymap := k } = { dropNotice code s with keymap := k } := by
  simp only [dropNotice]
  split <;> rfl

theorem handNotice_withKeymap (n : Notice) (k : Keymap) (s : State) :
    handNotice n { s with keymap := k } = { handNotice n s with keymap := k } := by
  simp only [handNotice]
  split
  · split
    · exact startTransmit_withKeymap k { s with panel := { s.panel with notices := s.panel.notices ++ [n] } }
    · exact dropNotice_withKeymap n.code k s
  · rfl

theorem handNotice_keymap_kept (n : Notice) (s : State) : (handNotice n s).keymap = s.keymap := by
  obtain ⟨_, _, _, _, same⟩ := handNotice_reports n s
  rw [same]

/-! ### The termination check (O36) -/

/-- The stack left when `k` tops have been popped. -/
def popped (k : Nat) (s : State) : State := { s with keymap := { s.keymap with stack := s.keymap.stack.drop k } }

theorem popped_succ {s : State} {top : StackEntry} {rest : List StackEntry} (h : s.keymap.stack = top :: rest) (k : Nat) :
    popped k (setStack rest s) = popped (k + 1) s := by
  simp only [popped, h, List.drop_succ_cons]
  rfl

/-- `k` is where the check ends: the tops before it have true codes, the next has a false one or there is none. -/
def EndsAt (s : State) (k : Nat) : Prop :=
  k ≤ s.keymap.stack.length
  ∧ (∀ j < k, (s.keymap.stack[j]?.any fun e => condition (popped j s) e.termination) = true)
  ∧ (s.keymap.stack[k]?.all fun e => !condition (popped k s) e.termination) = true

theorem EndsAt.pop {s : State} {top : StackEntry} {rest : List StackEntry} (h : s.keymap.stack = top :: rest)
    (isTrue : condition s top.termination = true) {k : Nat} (ends : EndsAt (setStack rest s) k) : EndsAt s (k + 1) := by
  obtain ⟨bound, before, last⟩ := ends
  refine ⟨by rw [h]; exact Nat.succ_le_succ bound, fun j hj => ?_, ?_⟩
  · cases j with
    | zero =>
      have whole : popped 0 s = s := rfl
      rw [h, whole]
      exact isTrue
    | succ j =>
      have here := before j (Nat.lt_of_succ_lt_succ hj)
      rw [popped_succ h] at here
      rw [h]
      exact here
  · rw [popped_succ h] at last
    rw [h]
    exact last

theorem terminate_endsAt (n : Nat) (s : State) (fuel : s.keymap.stack.length ≤ n) :
    ∃ k, EndsAt s k ∧ terminate n s = popped k s := by
  induction n generalizing s with
  | zero =>
    have empty : s.keymap.stack = [] := List.eq_nil_of_length_eq_zero (Nat.le_zero.mp fuel)
    exact ⟨0, ⟨Nat.zero_le _, nofun, by rw [empty]; rfl⟩, rfl⟩
  | succ n ih =>
    cases h : s.keymap.stack with
    | nil =>
      refine ⟨0, ⟨Nat.zero_le _, nofun, by rw [h]; rfl⟩, ?_⟩
      simp only [terminate, h]
      rfl
    | cons top rest =>
      cases code : condition s top.termination with
      | true =>
        have shorter : (setStack rest s).keymap.stack.length ≤ n := by
          rw [h] at fuel
          exact Nat.le_of_succ_le_succ fuel
        obtain ⟨k, ends, same⟩ := ih (setStack rest s) shorter
        exact ⟨k + 1, ends.pop h code, by rw [terminate_pop h code, same, popped_succ h]⟩
      | false =>
        refine ⟨0, ⟨Nat.zero_le _, nofun, ?_⟩, terminate_stop h code⟩
        have whole : popped 0 s = s := rfl
        rw [h, whole]
        simp [code]

/-- Settles O36, by induction on the fuel, which the stack's length bounds. -/
theorem terminationCheckPopsTrueTops : Obligations.TerminationCheckPopsTrueTops := by
  unfold Obligations.TerminationCheckPopsTrueTops
  intro s l left
  obtain ⟨k, ⟨bound, before, last⟩, same⟩ := terminate_endsAt s.keymap.stack.length s (Nat.le_refl _)
  exact ⟨k, bound, same, before, last⟩

/-! ### Layer events (O35) -/

theorem pushedEntry_eq (p : Position) (layer : Fin 4) (termination : Fin 32) (count : Nat) :
    pushedEntry p layer termination count =
      { layer := layer, position := p, termination := termination, counted := decide (count ≠ 0), count := count, idle := 0
        held := true } := by
  have counted : decide (0 < count) = decide (count ≠ 0) := decide_eq_decide.mpr Nat.pos_iff_ne_zero
  rw [pushedEntry, counted]

theorem exec_layerTick {s : State} (calm : Calm s) {next : Option Nat} (h : s.keymap.nextTick = next) :
    exec .layerTick s = finish (match next with
      | some t => terminationCheck (ageStack { reach t s with keymap.nextTick := some (t + Config.layerTick) })
      | none => s) := by
  change execLayerTick s = _
  rw [execLayerTick, upon_calm calm]
  cases next <;> simp only [h]

theorem exec_armDelayExpiry {s : State} (calm : Calm s) (p : Position) {arm : Option Arm}
    (h : s.keymap.positions[p].arm = arm) :
    exec (.armDelayExpiry p) s = finish (match arm with
      | some a => armExpires p a (reach a.timer.deadline s)
      | none => s) := by
  change execArmDelayExpiry p s = _
  rw [execArmDelayExpiry, upon_calm calm]
  cases arm <;> simp only [h]

/-- Settles O35. -/
theorem layerEventsActOnTheStack : Obligations.LayerEventsActOnTheStack := by
  unfold Obligations.LayerEventsActOnTheStack
  intro s
  refine ⟨fun tag ready => exec_replied ready rfl rfl ready.delivers (by decide), fun calm none => exec_layerTick calm none,
    fun t next calm => exec_layerTick calm next, fun p calm none => exec_armDelayExpiry calm p none, fun p a arm calm => ?_⟩
  intro u e
  have pushed : pushedEntry p a.layer a.termination a.count = e := pushedEntry_eq ..
  rw [exec_armDelayExpiry calm p arm]
  refine ⟨fun room => ?_, fun full => ?_⟩
  · have free : ¬ Config.stackEntries ≤ s.keymap.stack.length := Nat.not_le.mpr room
    rw [← pushed]
    exact congrArg finish (if_neg free)
  · have taken : Config.stackEntries ≤ s.keymap.stack.length := full
    exact congrArg finish (if_pos taken)

/-! ### Resolution (R131) -/

theorem walkEntry_first {s : State} {p : Position} {walk : List (Fin 4)} {k : Nat} (hk : k < walk.length)
    (before : ∀ j < k, s.keymap.entries[keySlot (walk.getD j 0) p] = .transparent)
    (found : s.keymap.entries[keySlot (walk.getD k 0) p] ≠ .transparent) :
    walkEntry s p walk = (s.keymap.entries[keySlot (walk.getD k 0) p], walk.getD k 0) := by
  induction walk generalizing k with
  | nil => exact absurd hk (Nat.not_lt_zero k)
  | cons l rest ih =>
    cases k with
    | zero =>
      simp only [List.getD_cons_zero] at found ⊢
      unfold walkEntry
      split
      · next transparent => exact absurd transparent found
      · rfl
    | succ k =>
      have transparent : s.keymap.entries[keySlot l p] = .transparent := before 0 (Nat.succ_pos k)
      simp only [walkEntry, transparent]
      exact ih (Nat.lt_of_succ_lt_succ hk) (fun j hj => before (j + 1) (Nat.succ_lt_succ hj)) found

theorem walkEntry_none {s : State} {p : Position} {walk : List (Fin 4)}
    (all : ∀ j < walk.length, s.keymap.entries[keySlot (walk.getD j 0) p] = .transparent) :
    walkEntry s p walk = (.none, 0) := by
  induction walk with
  | nil => rfl
  | cons l rest ih =>
    have transparent : s.keymap.entries[keySlot l p] = .transparent := all 0 (Nat.succ_pos _)
    simp only [walkEntry, transparent]
    exact ih fun j hj => all (j + 1) (Nat.succ_lt_succ hj)

theorem walkEntry_entries {s t : State} (entries : t.keymap.entries = s.keymap.entries) (p : Position) (walk : List (Fin 4)) :
    walkEntry t p walk = walkEntry s p walk := by
  induction walk with
  | nil => rfl
  | cons l rest ih => simp only [walkEntry, entries, ih]

theorem resolveKey_resetIdle (p : Position) (s : State) : resolveKey (resetIdle s) p = resolveKey s p := by
  have walk : layerWalk (resetIdle s) = layerWalk s := by
    simp [layerWalk, resetIdle, Function.comp_def]
  rw [resolveKey, walk]
  exact walkEntry_entries (s := s) (t := resetIdle s) rfl p (layerWalk s)

/-! ### Presses (O37) -/

section Press
variable (p : Position) (s : State)

/-- The state with the keymap unit's state of `p` and its stack replaced. -/
def keyedWith (t : State) (y : KeyPosition) (stack : List StackEntry) : State :=
  { t with keymap := { s.keymap with positions := vset s.keymap.positions p y, stack := stack } }

/-- The stack at a press: every idle time 0 (R132). -/
def calmStack : List StackEntry := s.keymap.stack.map fun e => { e with idle := 0 }

/-- The position's state once its press is resolved (R132). -/
def notedPress (kind : KeyKind) (l : Fin 4) : KeyPosition :=
  { resolution := some (kind, l), code := s.keymap.positions[p].code, reported := false, arm := s.keymap.positions[p].arm }

/-- The state in which the press action is carried out. -/
def resolvedState (e : KeyEntry) (l : Fin 4) : State := keyedWith p s s (notedPress p s e.kind l) (calmStack s)

variable {p s}

theorem takePress_eq {e : KeyEntry} {l : Fin 4} (h : resolveKey s p = (e, l)) (first : Bool) :
    takePress p first s = checkWithRequest (grantedService e (resolvedState p s e l)) first
      (pressAction p e l (resolvedState p s e l)) := by
  simp only [takePress, resolveKey_resetIdle, h]
  rfl

/-- The position's state in a keyed state, and the state keyed again. -/
theorem keyedWith_position (t : State) (y : KeyPosition) (stack : List StackEntry) :
    (keyedWith p s t y stack).keymap.positions[p] = y := vset_self ..

theorem setKey_keyedWith (t : State) (x y : KeyPosition) (stack : List StackEntry) :
    setKey p x (keyedWith p s t y stack) = keyedWith p s t x stack := by
  simp only [setKey, keyedWith, vset_vset]

theorem setStack_keyedWith (t : State) (y : KeyPosition) (stack l : List StackEntry) :
    setStack l (keyedWith p s t y stack) = keyedWith p s t y l := rfl

theorem keyNotice_keyedWith (code : Nat) (d : Direction) (l : Fin 4) (forced : Bool) (y : KeyPosition) (stack : List StackEntry) :
    keyNotice p code d l forced (keyedWith p s s y stack) =
      keyedWith p s (countEvent .keyNotices (handNotice (.key p code d l forced) s)) y stack := by
  rw [keyNotice, keyedWith, handNotice_withKeymap]
  rfl

/-- The stack once the counted top entry has lost one (R132). -/
def countedStack (stack : List StackEntry) : List StackEntry :=
  match stack with
  | top :: rest => if top.counted ∧ 0 < top.count then { top with count := top.count - 1 } :: rest else stack
  | [] => []

theorem countTop_keyedWith (t : State) (y : KeyPosition) (stack : List StackEntry) :
    countTop (keyedWith p s t y stack) = keyedWith p s t y (countedStack stack) := by
  cases stack with
  | nil => rfl
  | cons top rest =>
    by_cases counts : top.counted = true ∧ 0 < top.count
    · have both : (top.counted && decide (0 < top.count)) = true := by simp [counts]
      rw [countedStack, if_pos counts]
      exact if_pos both
    · have notBoth : ¬ (top.counted && decide (0 < top.count)) = true := by simpa using counts
      rw [countedStack, if_neg counts]
      exact if_neg notBoth

/-- A PLAIN press, its code remembered (R132). -/
theorem pressPlain_coded (code : Nat) (l : Fin 4) :
    pressPlain p code l (resolvedState p s (.plain code) l) =
      (fun t => if t.hpc.host.keysReported then
          countTop (setKey p { (keyNotice p code .press l false t).keymap.positions[p] with reported := true }
            (keyNotice p code .press l false t))
        else countEvent .keyDiscarded t)
      (keyedWith p s s { notedPress p s .plain l with code := some code } (calmStack s)) := by
  have coded : setKey p { (resolvedState p s (.plain code) l).keymap.positions[p] with code := some code }
      (resolvedState p s (.plain code) l)
        = keyedWith p s s { notedPress p s .plain l with code := some code } (calmStack s) := by
    rw [resolvedState, keyedWith_position, setKey_keyedWith]
    rfl
  rw [← coded]
  rfl

theorem pressPlain_reported (keys : s.hpc.host.keysReported = true) (code : Nat) (l : Fin 4) :
    pressPlain p code l (resolvedState p s (.plain code) l) =
      keyedWith p s (countEvent .keyNotices (handNotice (.key p code .press l false) s))
        { notedPress p s .plain l with code := some code, reported := true } (countedStack (calmStack s)) := by
  refine (pressPlain_coded code l).trans ((if_pos keys).trans ?_)
  simp only [keyNotice_keyedWith, keyedWith_position, setKey_keyedWith, countTop_keyedWith]

theorem pressPlain_discarded (silent : s.hpc.host.keysReported = false) (code : Nat) (l : Fin 4) :
    pressPlain p code l (resolvedState p s (.plain code) l) =
      countEvent .keyDiscarded (keyedWith p s s { notedPress p s .plain l with code := some code } (calmStack s)) :=
  (pressPlain_coded code l).trans (if_neg (by
    change ¬ s.hpc.host.keysReported = true
    rw [silent]
    decide))

theorem terminationCheck_empty {t : State} (h : t.keymap.stack = []) : terminationCheck t = t := by
  rw [terminationCheck, h]
  rfl

theorem pressLayer_delayed {d : Nat} (delay : d ≠ 0) (m l : Fin 4) (c : Fin 32) (n : Nat) :
    pressLayer p m c n d (resolvedState p s (.layer m c n d) l) =
      keyedWith p s s { notedPress p s .layer l with
        arm := some { timer := { start := s.now, span := ms d }, layer := m, termination := c, count := n } } (calmStack s) := by
  rw [pressLayer, if_neg delay]
  simp only [resolvedState, keyedWith_position, setKey_keyedWith]
  rfl

theorem pushLayer_room {t : State} (room : t.keymap.stack.length < 6) (m : Fin 4) (c : Fin 32) (n : Nat) :
    pushLayer p m c n t = setStack (pushedEntry p m c n :: t.keymap.stack) t :=
  if_neg (Nat.not_le.mpr room)

theorem pushLayer_full {t : State} (full : 6 ≤ t.keymap.stack.length) (m : Fin 4) (c : Fin 32) (n : Nat) :
    pushLayer p m c n t = recordError .layerOverflow { index := some p.val } t := if_pos full

/-- A request that the Condition Unit carries out asks nothing of the Host Power Controller. -/
theorem checkWithRequest_idle {f : ServiceFunction} (idle : ∀ t, serviceRequest f t = t) (first : Bool) (t : State) :
    checkWithRequest (some f) first t = terminationCheck t := by
  cases first <;> simp [checkWithRequest, idle]

end Press

/-- Settles O37: the walk, then the action of each kind of entry. -/
theorem pressesActByTheResolvedEntry : Obligations.PressesActByTheResolvedEntry := by
  unfold Obligations.PressesActByTheResolvedEntry
  intro s p first walk at_ x calm keyed noted counted press
  refine ⟨fun k hk before found => walkEntry_first hk before found, fun all => walkEntry_none all, fun l h => ?_,
    fun code l h => ?_, fun m l c n d h => ?_, fun l h => ?_, fun l h => ?_, fun f c l h => ?_, ?_⟩
  · exact takePress_eq h first
  · intro y
    have pressed : press = terminationCheck (pressPlain p code l (resolvedState p s (.plain code) l)) := takePress_eq h first
    refine ⟨fun keys => ?_, fun silent => ?_⟩
    · rw [pressed, pressPlain_reported keys]
      rfl
    · rw [pressed, pressPlain_discarded silent]
      rfl
  · intro e arm
    have pressed : press = terminationCheck (pressLayer p m c n d (resolvedState p s (.layer m c n d) l)) := takePress_eq h first
    refine ⟨fun delay => ?_, fun atOnce room => ?_, fun atOnce full => ?_⟩
    · rw [pressed, pressLayer_delayed delay]
      rfl
    · have free : (resolvedState p s (.layer m c n d) l).keymap.stack.length < 6 := room
      rw [pressed, pressLayer, if_pos atOnce, pushLayer_room free, pushedEntry_eq]
      rfl
    · have taken : 6 ≤ (resolvedState p s (.layer m c n d) l).keymap.stack.length := full
      rw [pressed, pressLayer, if_pos atOnce, pushLayer_full taken]
      rfl
  · exact takePress_eq h first
  · exact (takePress_eq h first).trans (terminationCheck_empty rfl)
  · intro u
    have pressed : press = checkWithRequest (if condition u c then some f else none) first
        (if condition u c then serviceFlags f u else u) := takePress_eq h first
    refine ⟨fun isFalse => ?_, fun n flag isTrue => ?_, fun n flag isTrue => ?_, fun isTrue request => ?_⟩
    · rw [pressed, isFalse]
      rfl
    · rw [pressed, if_pos isTrue, if_pos isTrue, flag, checkWithRequest_idle fun _ => rfl]
      rfl
    · rw [pressed, if_pos isTrue, if_pos isTrue, flag, checkWithRequest_idle fun _ => rfl]
      rfl
    · have untouched : serviceFlags f u = u := by obtain rfl | rfl | rfl | rfl := request <;> rfl
      rw [pressed, if_pos isTrue, if_pos isTrue, untouched]
      rfl
  · intro state
    refine ⟨fun host on => if_pos ⟨host, on⟩, fun other => if_neg ?_, fun host => if_pos host, fun host => if_neg host, ?_, ?_, rfl⟩
    · rintro ⟨host, on⟩
      exact other.elim (· host) (· on)
    · intro running
      have runs : state.running = true := by obtain h | h | h := running <;> rw [h] <;> rfl
      exact if_pos runs
    · intro boot run warn
      have stopped : ¬ state.running = true := by
        revert boot run warn
        cases state <;> decide
      exact if_neg stopped

/-! ### Releases (O38) -/

section Release
variable {p : Position} {s : State}

/-- The stack once the held flags of the position's entries are cleared (R133). -/
def letGo (p : Position) (s : State) : List StackEntry :=
  s.keymap.stack.map fun e => if e.position = p then { e with held := false } else e

/-- The position's state once its press is over (R133). -/
def clearedPosition (arm : Option Arm) : KeyPosition := { resolution := none, code := none, reported := false, arm := arm }

theorem releaseHeld_eq : releaseHeld p s = keyedWith p s s s.keymap.positions[p] (letGo p s) := by
  simp only [releaseHeld, setStack, keyedWith, vset_same]
  rfl

theorem takeRelease_of_action {forced : Bool} {t : State} {y : KeyPosition}
    (h : releaseAction p forced (releaseHeld p s) = keyedWith p s t y (letGo p s)) :
    takeRelease p forced s = terminationCheck (keyedWith p s t (clearedPosition y.arm) (letGo p s)) := by
  simp only [takeRelease, h, keyedWith_position, setKey_keyedWith, clearedPosition]

theorem releaseAction_eq (forced : Bool) :
    releaseAction p forced (releaseHeld p s) =
      match s.keymap.positions[p].resolution with
      | some (.plain, layer) =>
        match s.keymap.positions[p].reported && s.hpc.host.keysReported, s.keymap.positions[p].code with
        | true, some code => keyNotice p code .release layer forced (keyedWith p s s s.keymap.positions[p] (letGo p s))
        | _, _ => countEvent .keyDiscarded (keyedWith p s s s.keymap.positions[p] (letGo p s))
      | some (.layer, _) => setKey p { s.keymap.positions[p] with arm := none } (keyedWith p s s s.keymap.positions[p] (letGo p s))
      | _ => keyedWith p s s s.keymap.positions[p] (letGo p s) := by
  rw [← releaseHeld_eq]
  rfl

theorem releaseAction_reported {code : Nat} {l : Fin 4} (plain : s.keymap.positions[p].resolution = some (.plain, l))
    (coded : s.keymap.positions[p].code = some code) (reported : s.keymap.positions[p].reported = true)
    (keys : s.hpc.host.keysReported = true) (forced : Bool) :
    releaseAction p forced (releaseHeld p s) =
      keyedWith p s (countEvent .keyNotices (handNotice (.key p code .release l forced) s)) s.keymap.positions[p] (letGo p s) := by
  rw [releaseAction_eq]
  simp only [plain, coded, reported, keys, Bool.and_self, keyNotice_keyedWith]

theorem releaseAction_discarded {l : Fin 4} (plain : s.keymap.positions[p].resolution = some (.plain, l))
    (silent : s.keymap.positions[p].reported = false ∨ s.hpc.host.keysReported = false) (forced : Bool) :
    releaseAction p forced (releaseHeld p s) =
      keyedWith p s (countEvent .keyDiscarded s) s.keymap.positions[p] (letGo p s) := by
  have off : (s.keymap.positions[p].reported && s.hpc.host.keysReported) = false := by
    obtain h | h := silent
    · rw [h, Bool.false_and]
    · rw [h, Bool.and_false]
  rw [releaseAction_eq]
  simp only [plain, off]
  rfl

theorem releaseAction_layer {l : Fin 4} (layer : s.keymap.positions[p].resolution = some (.layer, l)) (forced : Bool) :
    releaseAction p forced (releaseHeld p s) =
      keyedWith p s s { s.keymap.positions[p] with arm := none } (letGo p s) := by
  rw [releaseAction_eq]
  simp only [layer, setKey_keyedWith]

theorem releaseAction_other (other : ∀ l : Fin 4, s.keymap.positions[p].resolution ≠ some (.plain, l)
      ∧ s.keymap.positions[p].resolution ≠ some (.layer, l)) (forced : Bool) :
    releaseAction p forced (releaseHeld p s) = keyedWith p s s s.keymap.positions[p] (letGo p s) := by
  rw [releaseAction_eq]
  split
  · next l h => exact absurd h (other l).1
  · next l h => exact absurd h (other l).2
  · rfl

end Release

/-- Settles O38. -/
theorem releasesActByThePressResolution : Obligations.ReleasesActByThePressResolution := by
  unfold Obligations.ReleasesActByThePressResolution
  intro s p forced x stack cleared
  exact ⟨fun code coded l plain =>
      ⟨fun reported keys => takeRelease_of_action (releaseAction_reported plain coded reported keys forced),
        fun silent => takeRelease_of_action (releaseAction_discarded plain silent forced)⟩,
    fun l layer => takeRelease_of_action (releaseAction_layer layer forced),
    fun other => takeRelease_of_action (releaseAction_other other forced)⟩

/-! ### The condition codes (O39) -/

theorem condition_base (s : State) (n : Fin 16) : condition s ⟨n.val, by omega⟩ = baseCondition s n := dif_pos n.isLt

theorem condition_complement (s : State) (n : Fin 16) : condition s ⟨16 + n.val, by omega⟩ = !baseCondition s n := by
  have high : ¬ 16 + n.val < 16 := by omega
  rw [condition, dif_neg high]
  congr 2
  exact Fin.ext (Nat.add_sub_cancel_left 16 n.val)

theorem powered_iff (h : HostState) :
    h.powered = true ↔ h = .rails ∨ h = .boot ∨ h = .run ∨ h = .warn ∨ h = .restart ∨ h = .drain := by
  cases h <;> decide

theorem anyCold_iff (s : State) :
    anyCold s = true ↔ ∃ z : Zone, s.heat.records[z].enable = true
      ∧ (gateValue s z).any (fun t => t < s.heat.records[z].coldThreshold) = true := by
  simp only [anyCold, List.any_eq_true, mem_allZones, true_and, Bool.and_eq_true, gateReading_eq]
  refine exists_congr fun z => and_congr_right fun _ => ?_
  cases gateValue s z <;> rfl

theorem allWarm_iff (s : State) :
    allWarm s = true ↔ ∀ z : Zone, s.heat.records[z].gateMask = true →
      (gateValue s z).any (fun t => s.heat.records[z].gateTemp ≤ t) = true := by
  rw [allWarm, gatedZones_all]
  refine forall_congr' fun z => imp_congr_right fun _ => ?_
  rw [gateReading_eq]
  cases gateValue s z <;> rfl

theorem anyCut_iff (s : State) : anyCut s = true ↔ ∃ z : Zone, s.heat.zones[z].cut = true := by
  simp only [anyCut, List.any_eq_true, mem_allZones, true_and]

/-- Settles O39: each code by the block it reads. -/
theorem conditionsReadTheState : Obligations.ConditionsReadTheState := by
  unfold Obligations.ConditionsReadTheState
  intro s top
  refine ⟨fun n => ?_, powered_iff s.hpc.host, keysReported_iff s.hpc.host, ?_, anyCold_iff s, allWarm_iff s, rfl, anyCut_iff s,
    ?_, ?_, ?_, fun f => ?_, ?_, rfl⟩
  · rw [condition_complement, condition_base]
  · change hostAlive s = _
    cases h : s.hpc.beat <;> simp [hostAlive, h]
  · change holdKey s = _
    cases h : s.keymap.stack <;> simp [holdKey, top, h]
  · change countDone s = _
    cases h : s.keymap.stack <;> simp [countDone, top, h]
  · change layerIdle s = _
    cases h : s.keymap.stack <;> simp [layerIdle, top, h]
  · fin_cases f <;> rfl
  · change errorPending s = true ↔ _
    simp [errorPending]

end Sys2Proof.Machine
end

section
/-! SUPPORT. Drive windows (O59) and the keypad scans (O60). -/

namespace Sys2Proof.Machine
open Sys2Proof

/-! ### Drive windows (O59) -/

theorem windowStart_eq (z : Zone) : windowStart z = 2000 * z.val := by
  simp only [windowStart, ms]
  omega

theorem inWindow_iff (z : Zone) {g t : Nat} (grant : g ≤ 64) (time : t < 8000) :
    inWindow z g t = true ↔
      (2000 * z.val ≤ t ∧ t < 2000 * z.val + 125 * g) ∨ t + 8000 < 2000 * z.val + 125 * g := by
  have zone := z.isLt
  simp only [inWindow, windowStart_eq, windowLength, Config.controlPeriod, decide_eq_true_eq, ms]
  omega

theorem windowEdges_eq (z : Zone) (g : Nat) :
    windowEdges z g = if g = 0 ∨ 64 ≤ g then [] else [2000 * z.val, (2000 * z.val + 125 * g) % 8000] := by
  rw [windowEdges, windowStart_eq]
  rfl

theorem lt_of_mem_windowEdges {z : Zone} {g e : Nat} (h : e ∈ windowEdges z g) : e < 8000 := by
  have zone := z.isLt
  rw [windowEdges_eq] at h
  split at h
  · exact absurd h List.not_mem_nil
  · simp only [List.mem_cons, List.not_mem_nil, or_false] at h
    omega

/-- The state with the zone's output driven at a moment (R42). -/
def shownAt (z : Zone) (t : Nat) (on : Bool) (s : State) : State :=
  { s with
    now := max s.now t
    heat := { s.heat with zones := vset s.heat.zones z { s.heat.zones[z] with output := on } } }

section Edges
variable {s : State} {z : Zone} {p : Nat}

theorem periodTime_of (start : s.heat.periodStart = some p) : periodTime s = min (s.now - p) 7999 := by
  simp only [periodTime, start]
  rfl

theorem driveOutput_here (start : s.heat.periodStart = some p) :
    driveOutput z s = shownAt z 0 (inWindow z s.heat.zones[z].grant (min (s.now - p) 7999)) s := by
  rw [driveOutput, periodTime_of start]
  simp only [shownAt, Nat.max_zero]

/-- An edge still to come in the period is reached at its own moment. -/
theorem driveOutput_edge (start : s.heat.periodStart = some p) {e : Nat} (edge : e < 8000) (ahead : min (s.now - p) 7999 < e) :
    driveOutput z (reach (p + e) s) = shownAt z (p + e) (inWindow z s.heat.zones[z].grant e) s := by
  have time : periodTime (reach (p + e) s) = e := by
    rw [periodTime_of (s := reach (p + e) s) start]
    simp only [reach]
    omega
  rw [driveOutput, time]
  rfl

theorem exec_driveWindowEdge (calm : Calm s) (start : s.heat.periodStart = some p) :
    exec (.driveWindowEdge z) s =
      if s.heat.zones[z].output = inWindow z s.heat.zones[z].grant (min (s.now - p) 7999) then
        finish (match nextEdge s z with
          | some e => driveOutput z (reach (p + e) s)
          | none => s)
      else finish (driveOutput z s) := by
  have due : edgeReached s z = !(s.heat.zones[z].output == inWindow z s.heat.zones[z].grant (min (s.now - p) 7999)) := by
    rw [edgeReached, start, periodTime_of start]
    rfl
  change execDriveWindowEdge z s = _
  rw [execDriveWindowEdge, upon_calm calm]
  simp only [start, due]
  by_cases same : s.heat.zones[z].output = inWindow z s.heat.zones[z].grant (min (s.now - p) 7999)
  · simp only [beq_iff_eq.mpr same, Bool.not_true, Bool.false_eq_true, if_false, if_pos same]
    cases nextEdge s z <;> rfl
  · simp only [beq_eq_false_iff_ne.mpr same, Bool.not_false, if_true, if_neg same]

theorem nextEdge_some (start : s.heat.periodStart = some p) {e : Nat} (edge : e ∈ windowEdges z s.heat.zones[z].grant)
    (ahead : min (s.now - p) 7999 < e)
    (first : ∀ f ∈ windowEdges z s.heat.zones[z].grant, min (s.now - p) 7999 < f → e ≤ f) : nextEdge s z = some e := by
  rw [nextEdge, periodTime_of start, List.min?_eq_some_iff]
  refine ⟨List.mem_filter.mpr ⟨edge, decide_eq_true ahead⟩, fun f hf => ?_⟩
  obtain ⟨member, later⟩ := List.mem_filter.mp hf
  exact first f member (of_decide_eq_true later)

theorem nextEdge_none (start : s.heat.periodStart = some p)
    (past : ∀ e ∈ windowEdges z s.heat.zones[z].grant, e ≤ min (s.now - p) 7999) : nextEdge s z = none := by
  rw [nextEdge, periodTime_of start, List.min?_eq_none_iff, List.filter_eq_nil_iff]
  intro e edge
  simpa using Nat.not_lt.mpr (past e edge)

end Edges

/-- Settles O59. -/
theorem driveWindowsFollowTheGrants : Obligations.DriveWindowsFollowTheGrants := by
  unfold Obligations.DriveWindowsFollowTheGrants
  refine ⟨fun z g t => inWindow_iff z, fun s z calm => ?_⟩
  intro g shows
  refine ⟨fun none => ?_, fun p start => ?_⟩
  · change execDriveWindowEdge z s = _
    rw [execDriveWindowEdge, upon_calm calm]
    simp only [none]
    rfl
  · intro here on edges
    have listed : windowEdges z s.heat.zones[z].grant = edges := windowEdges_eq z g
    refine ⟨fun other => ?_, fun same => ⟨fun e edge ahead first => ?_, fun past => ?_⟩⟩
    · rw [exec_driveWindowEdge calm start, if_neg other, driveOutput_here start]
      rfl
    · have member : e ∈ windowEdges z s.heat.zones[z].grant := listed ▸ edge
      rw [exec_driveWindowEdge calm start, if_pos same, nextEdge_some start member ahead (listed ▸ first)]
      exact congrArg finish (driveOutput_edge start (lt_of_mem_windowEdges member) ahead)
    · rw [exec_driveWindowEdge calm start, if_pos same, nextEdge_none start (listed ▸ past)]
      rfl

/-! ### Rectangles (section 7.5) -/

theorem rowOf_positionAt (r c : Fin 8) : rowOf (positionAt r c) = r := by
  apply Fin.ext
  simp only [rowOf, positionAt]
  omega

theorem columnOf_positionAt (r c : Fin 8) : columnOf (positionAt r c) = c := by
  apply Fin.ext
  simp only [columnOf, positionAt]
  omega

theorem positionAt_ne {r c r' c' : Fin 8} (h : r ≠ r' ∨ c ≠ c') : positionAt r c ≠ positionAt r' c' := by
  intro same
  obtain h | h := h
  · exact h (by rw [← rowOf_positionAt r c, same, rowOf_positionAt])
  · exact h (by rw [← columnOf_positionAt r c, same, columnOf_positionAt])

theorem inClosedSet_eq (st : PadState) :
    st.inClosedSet = (decide (st = .closed) || decide (st = .masked) || decide (st = .opening) || decide (st = .stuck)) := by
  cases st <;> rfl

theorem completesRectangle_iff (s : State) (r c : Fin 8) :
    completesRectangle s (positionAt r c) = true ↔ ∃ v d : Fin 8, v ≠ r ∧ d ≠ c ∧ inClosedSet s (positionAt v c) = true
      ∧ inClosedSet s (positionAt r d) = true ∧ inClosedSet s (positionAt v d) = true := by
  simp only [completesRectangle, rowOf_positionAt, columnOf_positionAt, List.any_eq_true, List.mem_finRange, true_and,
    Bool.and_eq_true, bne_iff_ne]
  constructor
  · rintro ⟨v, ⟨row, corner⟩, d, ⟨column, mine⟩, far⟩
    exact ⟨v, d, row, column, corner, mine, far⟩
  · rintro ⟨v, d, row, column, corner, mine, far⟩
    exact ⟨v, ⟨row, corner⟩, d, ⟨column, mine⟩, far⟩

/-- A position's own state takes no part in its rectangles. -/
theorem completesRectangle_setPad (s : State) (r c : Fin 8) (y : PadPosition) :
    completesRectangle (setPad (positionAt r c) y s) (positionAt r c) = completesRectangle s (positionAt r c) := by
  have other {v d : Fin 8} (h : v ≠ r ∨ d ≠ c) :
      inClosedSet (setPad (positionAt r c) y s) (positionAt v d) = inClosedSet s (positionAt v d) := by
    have kept : (vset s.pad.positions (positionAt r c) y)[positionAt v d] = s.pad.positions[positionAt v d] :=
      vset_other _ _ (positionAt_ne h)
    simp only [inClosedSet, setPad, kept]
  rw [Bool.eq_iff_iff, completesRectangle_iff, completesRectangle_iff]
  refine exists_congr fun v => exists_congr fun d => and_congr_right fun row => and_congr_right fun column => ?_
  rw [other (.inl row), other (.inr column), other (.inl row)]

/-! ### The scan commands (R114, R117) -/

theorem exec_scanStart {s : State} (calm : Calm s) {next : Option Nat} (h : s.pad.nextScan = next) :
    exec .scanStart s = finish (match next with
      | some t => if s.pad.scanning then s else beginScan t (reach t s)
      | none => s) := by
  change execScanStart s = _
  rw [execScanStart, upon_calm calm]
  cases next with
  | none => simp only [h]
  | some t =>
    simp only [h]
    split <;> rfl

theorem exec_scanComplete {s : State} (calm : Calm s) (readings first : BitVec 64) {next : Option Nat}
    (h : s.pad.nextScan = next) :
    exec (.scanComplete readings first) s = finish (match next with
      | some _ => processScan readings first { s with pad.scanning := false }
      | none => s) := by
  change execScanComplete readings first s = _
  rw [execScanComplete, upon_calm calm]
  cases next <;> simp only [h]

theorem processScan_eq (readings first : BitVec 64) (s : State) :
    processScan readings first s =
      if (allPositions.foldl (scanVisit readings first) (s, false)).2 then
        unmaskCheck first (allPositions.foldl (scanVisit readings first) (s, false)).1
      else (allPositions.foldl (scanVisit readings first) (s, false)).1 := rfl

/-! ### One position (R118 to R123) -/

section Position
variable {s : State} {p : Position} {first : Bool}

theorem acceptPress_eq :
    acceptPress p first s =
      if s.pad.record.ghostMasking = true ∧ completesRectangle s p = true then
        setPad p { s.pad.positions[p] with state := .masked, count := 0, closedSince := some s.now } s
      else takePress p first
        (setPad p { s.pad.positions[p] with state := .closed, count := 0, closedSince := some s.now } s) := by
  simp only [acceptPress, Bool.and_eq_true]

theorem stepClosing_eq (n : Nat) :
    stepClosing p n first s =
      if s.pad.count ≤ n then acceptPress p first s
      else setPad p { s.pad.positions[p] with state := .closing, count := n } s := by
  simp only [stepClosing, countReached, decide_eq_true_eq]

theorem stepOpening_below {n : Nat} (below : n < s.pad.count) (v : StableState) :
    stepOpening p n v s = (setPad p { s.pad.positions[p] with state := .opening, count := n, previous := some v } s, false) := by
  simp only [stepOpening, countReached, decide_eq_true_eq, if_neg (Nat.not_le.mpr below)]

theorem stepOpening_closed {n : Nat} (reached : s.pad.count ≤ n) :
    stepOpening p n .closed s = (takeRelease p false (setPad p PadPosition.initial s), true) := by
  simp only [stepOpening, countReached, decide_eq_true_eq, if_pos reached]
  rfl

theorem stepOpening_masked {n : Nat} (reached : s.pad.count ≤ n) :
    stepOpening p n .masked s = (setPad p PadPosition.initial s, true) := by
  simp only [stepOpening, countReached, decide_eq_true_eq, if_pos reached]
  rfl

theorem stuckReached_eq :
    stuckReached s p = (decide (s.pad.record.stuckTime ≠ 0)
      && s.pad.positions[p].closedSince.any fun m => 8000 * s.pad.record.stuckTime ≤ s.now - m) := by
  have units : sec s.pad.record.stuckTime = 8000 * s.pad.record.stuckTime := by
    simp only [sec]
  unfold stuckReached
  cases s.pad.positions[p].closedSince with
  | none => simp
  | some m => simp [units]

theorem stuckTest_free (free : stuckReached s p = false) : stuckTest p s = s := by
  rw [stuckTest, free]
  rfl

theorem stuckTest_closed (held : stuckReached s p = true) (state : s.pad.positions[p].state = .closed) :
    stuckTest p s = takeRelease p true (setPad p { s.pad.positions[p] with state := .stuck, count := 0 } s) := by
  rw [stuckTest, if_pos held]
  exact if_pos state

theorem stuckTest_masked (held : stuckReached s p = true) (state : s.pad.positions[p].state = .masked) :
    stuckTest p s = setPad p { s.pad.positions[p] with state := .stuck, count := 0 } s := by
  rw [stuckTest, if_pos held]
  exact if_neg (by rw [state]; decide)

theorem unmaskIfFree_other (state : s.pad.positions[p].state ≠ .masked) : unmaskIfFree p first s = s := by
  rw [unmaskIfFree, decide_eq_false state]
  rfl

theorem unmaskIfFree_kept (rectangle : completesRectangle s p = true) : unmaskIfFree p first s = s := by
  rw [unmaskIfFree, rectangle, Bool.not_true, Bool.and_false]
  rfl

theorem unmaskIfFree_free (state : s.pad.positions[p].state = .masked) (free : completesRectangle s p = false) :
    unmaskIfFree p first s = takePress p first (setPad p { s.pad.positions[p] with state := .closed } s) := by
  rw [unmaskIfFree, decide_eq_true state, free]
  rfl

theorem returnStable_closed (previous : s.pad.positions[p].previous = some .closed) :
    returnStable p first s = setPad p { s.pad.positions[p] with state := .closed, count := 0 } s := by
  simp only [returnStable, previous]

theorem returnStable_masked (previous : s.pad.positions[p].previous = some .masked) :
    returnStable p first s =
      unmaskIfFree p first (setPad p { s.pad.positions[p] with state := .masked, count := 0 } s) := by
  simp only [returnStable, previous]

theorem stepStuck_eq :
    stepStuck p s =
      if s.pad.count ≤ bump s.pad.positions[p] then (setPad p PadPosition.initial s, true)
      else (setPad p { s.pad.positions[p] with count := bump s.pad.positions[p] } s, false) := by
  simp only [stepStuck, countReached, decide_eq_true_eq]

theorem setPad_setPad (x y : PadPosition) : setPad p y (setPad p x s) = setPad p y s := by
  simp only [setPad, vset_vset]

theorem setPad_position (x : PadPosition) : (setPad p x s).pad.positions[p] = x := vset_self ..

/-- What a position does with its reading, by its state. -/
theorem scanPosition_of {st : PadState} (state : s.pad.positions[p].state = st) (closed : Bool) :
    scanPosition p closed first s = match st, closed with
      | .open, false => (s, false)
      | .open, true => (stepClosing p 1 first s, false)
      | .closing, true => (stepClosing p (bump s.pad.positions[p]) first s, false)
      | .closing, false => (setPad p { s.pad.positions[p] with state := .open, count := 0 } s, false)
      | .closed, true => (stuckTest p s, false)
      | .masked, true => (stuckTest p s, false)
      | .closed, false => stepOpening p 1 .closed s
      | .masked, false => stepOpening p 1 .masked s
      | .opening, false =>
        stepOpening p (bump s.pad.positions[p]) (s.pad.positions[p].previous.getD .closed) s
      | .opening, true => (returnStable p first s, false)
      | .stuck, false => stepStuck p s
      | .stuck, true => (setPad p { s.pad.positions[p] with count := 0 } s, false) := by
  cases st <;> cases closed <;> simp only [scanPosition, state]

end Position

/-- Settles O60: the scan commands, then one position state by state. -/
theorem scansDecideEveryPosition : Obligations.ScansDecideEveryPosition := by
  unfold Obligations.ScansDecideEveryPosition
  refine ⟨fun s calm => ⟨fun waits => ?_, fun t next free => ?_⟩, fun s readings first calm => ?_, fun s r c first => ?_⟩
  · cases next : s.pad.nextScan with
    | none => exact exec_scanStart calm next
    | some t =>
      have busy : s.pad.scanning = true := waits.resolve_left (by rw [next]; exact nofun)
      rw [exec_scanStart calm next, busy]
      rfl
  · rw [exec_scanStart calm next, free]
    have units : ms s.pad.record.scanPeriod = 8 * s.pad.record.scanPeriod := by
      simp only [ms]
    rw [← units]
    rfl
  · intro after visit scanned unmasked
    refine ⟨fun none => exec_scanComplete calm readings first none, fun next => ?_⟩
    obtain ⟨t, next⟩ := Option.ne_none_iff_exists'.mp next
    rw [exec_scanComplete calm readings first next, processScan_eq]
    rfl
  · intro p x put inSet rectangle more n closes press opened held stuck free openings
    have isSet (v d : Fin 8) : inSet v d = inClosedSet s (positionAt v d) := by
      rw [inClosedSet, inClosedSet_eq]
      rfl
    have corners : completesRectangle s p = rectangle := by
      refine Bool.eq_iff_iff.mpr ((completesRectangle_iff s r c).trans ?_)
      simp only [rectangle, isSet, List.any_eq_true, List.mem_finRange, true_and, Bool.and_eq_true, bne_iff_ne, and_assoc]
    have isHeld : stuckReached s p = held := stuckReached_eq
    have isMore : bump x = more := rfl
    have pressed : acceptPress p first s = press := by
      rw [acceptPress_eq, corners]
      rfl
    have steps (k : Nat) (v : StableState) (opens : scanPosition p false first s = stepOpening p k v s) : openings k v := by
      refine ⟨fun below => opens.trans (stepOpening_below below v), ?_, ?_⟩
      · rintro reached rfl
        exact opens.trans (stepOpening_closed reached)
      · rintro reached rfl
        exact opens.trans (stepOpening_masked reached)
    have closing (k : Nat) (closes : scanPosition p true first s = (stepClosing p k first s, false)) :
        (k < n → scanPosition p true first s = (put { x with state := .closing, count := k }, false))
          ∧ (n ≤ k → scanPosition p true first s = (press, false)) := by
      refine ⟨fun below => ?_, fun reached => ?_⟩
      · rw [closes, stepClosing_eq, if_neg (Nat.not_le.mpr below)]
        rfl
      · rw [closes, stepClosing_eq, if_pos reached, pressed]
    refine ⟨fun state => ?_, fun state => ?_, fun state => ?_, fun state => ?_, fun v previous state => ?_, fun state => ?_,
      unmaskIfFree_other⟩
    · exact ⟨scanPosition_of state false, closing 1 (scanPosition_of state true)⟩
    · exact ⟨scanPosition_of state false, closing more (scanPosition_of state true)⟩
    · refine ⟨steps 1 .closed (scanPosition_of state false), fun isFree => ?_, fun stays => ?_⟩
      · exact (scanPosition_of state true).trans (by rw [stuckTest_free (isHeld.trans isFree)])
      · exact (scanPosition_of state true).trans (by rw [stuckTest_closed (isHeld.trans stays) state]; rfl)
    · refine ⟨steps 1 .masked (scanPosition_of state false), fun isFree => ?_, fun stays => ?_, fun kept => ?_, fun gone => ?_⟩
      · exact (scanPosition_of state true).trans (by rw [stuckTest_free (isHeld.trans isFree)])
      · exact (scanPosition_of state true).trans (by rw [stuckTest_masked (isHeld.trans stays) state]; rfl)
      · exact unmaskIfFree_kept (corners.trans kept)
      · exact unmaskIfFree_free state (corners.trans gone)
    · have back : scanPosition p true first s = (returnStable p first s, false) := scanPosition_of state true
      have opens : scanPosition p false first s = stepOpening p more v s := by
        rw [scanPosition_of state false, previous]
        rfl
      refine ⟨steps more v opens, ?_, ?_, ?_⟩
      · rintro rfl
        rw [back, returnStable_closed previous]
        rfl
      · rintro rfl kept
        rw [back, returnStable_masked previous, unmaskIfFree_kept]
        · rfl
        · exact (completesRectangle_setPad s r c _).trans (corners.trans kept)
      · rintro rfl gone
        rw [back, returnStable_masked previous, unmaskIfFree_free, setPad_position, setPad_setPad]
        · rfl
        · rw [setPad_position]
        · exact (completesRectangle_setPad s r c _).trans (corners.trans gone)
    · refine ⟨scanPosition_of state true, fun below => ?_, fun reached => ?_⟩
      · exact (scanPosition_of state false).trans (stepStuck_eq.trans (if_neg (Nat.not_le.mpr below)))
      · exact (scanPosition_of state false).trans (stepStuck_eq.trans (if_pos reached))

end Sys2Proof.Machine
end

section
/-! SUPPORT. The link arbiter: the poll head, the grants (O57); LOAD_CHANNEL (O23). -/

namespace Sys2Proof.Machine
open Sys2Proof

/-! ### The poll head (R50) -/

/-- The poll queue's order puts `c` before every other queued channel. -/
def LeadsPolls (s : State) (c : Channel) : Prop := isQueued s c = true ∧ ∀ d, isQueued s d = true → queuedBefore s c d = true

theorem queuedBefore_iff (s : State) (c d : Channel) :
    queuedBefore s c d = true ↔ s.probe.chans[c].due.getD 0 < s.probe.chans[d].due.getD 0
      ∨ (s.probe.chans[c].due.getD 0 = s.probe.chans[d].due.getD 0 ∧ c.val ≤ d.val) := by
  simp only [queuedBefore, Bool.or_eq_true, Bool.and_eq_true, decide_eq_true_eq, Fin.le_def]

theorem queuedBefore_total (s : State) (c d : Channel) : queuedBefore s c d = true ∨ queuedBefore s d c = true := by
  rw [queuedBefore_iff, queuedBefore_iff]
  omega

theorem queuedBefore_trans {s : State} {c d e : Channel} (h : queuedBefore s c d = true) (k : queuedBefore s d e = true) :
    queuedBefore s c e = true := by
  rw [queuedBefore_iff] at *
  omega

theorem mem_pollQueue (s : State) (c : Channel) : c ∈ pollQueue s ↔ isQueued s c = true := by
  rw [pollQueue, List.mem_insertionSort, List.mem_filter]
  exact and_iff_right (List.mem_finRange c)

theorem pollQueue_ordered (s : State) : (pollQueue s).Pairwise fun c d => queuedBefore s c d = true := by
  have total : Std.Total fun c d : Channel => queuedBefore s c d = true := ⟨queuedBefore_total s⟩
  have trans : IsTrans Channel fun c d => queuedBefore s c d = true := ⟨fun _ _ _ => queuedBefore_trans⟩
  exact List.pairwise_insertionSort _ _

theorem pollHead_leadsPolls {s : State} {c : Channel} (h : pollHead s = some c) : LeadsPolls s c := by
  obtain ⟨rest, queue⟩ := List.head?_eq_some_iff.mp h
  have ordered := pollQueue_ordered s
  rw [queue, List.pairwise_cons] at ordered
  refine ⟨(mem_pollQueue s c).mp (queue ▸ List.mem_cons_self), fun d queued => ?_⟩
  have mem := (mem_pollQueue s d).mpr queued
  rw [queue, List.mem_cons] at mem
  rcases mem with rfl | behind
  · exact (queuedBefore_total s d d).elim id id
  · exact ordered.1 d behind

theorem pollHead_none {s : State} (h : ∀ c, isQueued s c = false) : pollHead s = none := by
  refine List.head?_eq_none_iff.mpr (List.eq_nil_iff_forall_not_mem.mpr fun c mem => ?_)
  exact absurd ((mem_pollQueue s c).mp mem) (by rw [h c]; decide)

theorem LeadsPolls.unique {s : State} {c d : Channel} (h : LeadsPolls s c) (k : LeadsPolls s d) : c = d := by
  have before := (queuedBefore_iff s c d).mp (h.2 d k.1)
  have after := (queuedBefore_iff s d c).mp (k.2 c h.1)
  exact Fin.ext (by omega)

theorem pollHead_iff (s : State) (c : Channel) : pollHead s = some c ↔ LeadsPolls s c := by
  refine ⟨pollHead_leadsPolls, fun leads => ?_⟩
  cases head : pollHead s with
  | none =>
    have empty := List.head?_eq_none_iff.mp head
    exact absurd ((mem_pollQueue s c).mpr leads.1) (by rw [empty]; exact List.not_mem_nil)
  | some d => rw [leads.unique (pollHead_leadsPolls head)]

theorem leadsPolls_iff (s : State) (c : Channel) :
    LeadsPolls s c ↔ decide (s.probe.chans[c].poll = .queued) = true
      ∧ ∀ d : Channel, decide (s.probe.chans[d].poll = .queued) = true → d ≠ c →
        s.probe.chans[c].due.getD 0 < s.probe.chans[d].due.getD 0
          ∨ (s.probe.chans[c].due.getD 0 = s.probe.chans[d].due.getD 0 ∧ c < d) := by
  refine and_congr Iff.rfl (forall_congr' fun d => imp_congr Iff.rfl ?_)
  rw [queuedBefore_iff]
  by_cases same : d = c
  · exact ⟨fun _ other => absurd same other, fun _ => .inr ⟨by rw [same], by rw [same]⟩⟩
  · rw [forall_prop_of_true same, Fin.lt_def]
    have apart := Fin.val_ne_iff.mpr same
    omega

/-! ### Grants (R153) -/

section
variable {s : State} {e : RelayEntry} {rest : List RelayEntry}

theorem linkIdle_of (idle : s.relay.link = none) : linkIdle s = true := by rw [linkIdle, idle]; rfl

theorem arbitrate_busy (busy : s.relay.link ≠ none) : arbitrate s = s := by
  have linked : linkIdle s = false := by rw [linkIdle, Option.isNone_eq_false_iff]; exact Option.isSome_iff_ne_none.mpr busy
  simp only [arbitrate, grants, linked, Bool.false_eq_true, if_false]

theorem arbitrate_nobody (granted : grantTo s = .nobody) : arbitrate s = s := by
  simp only [arbitrate, grants, granted, ite_self]

theorem arbitrate_poll {c : Channel} (idle : s.relay.link = none) (granted : grantTo s = .poll c) :
    arbitrate s = dispatchPoll c s := by
  simp only [arbitrate, grants, linkIdle_of idle, if_true, granted]

theorem arbitrate_relay (idle : s.relay.link = none) (granted : grantTo s = .relay e)
    (open_ : guardHolds s e.window e.op = false) : arbitrate s = dispatchRelay e s := by
  simp only [arbitrate, grants, linkIdle_of idle, if_true, granted, open_, Bool.false_eq_true, if_false]

theorem reportRelayEmpty_relay (s : State) : (reportRelayEmpty s).relay = s.relay := by
  unfold reportRelayEmpty
  split <;> rfl

theorem reportRelayEmpty_host (s : State) : (reportRelayEmpty s).hpc.host = s.hpc.host := by
  unfold reportRelayEmpty
  split <;> rfl

theorem refuseAtDispatch_queue (e : RelayEntry) (s : State) : (refuseAtDispatch e s).relay.queue = s.relay.queue.tail := by
  rw [refuseAtDispatch, reportRelayEmpty_relay, countEvent_relay, recordError_relay, relayReply, placeReply_relay]

theorem arbitrate_refused (held : s.relay.queue = e :: rest) (idle : s.relay.link = none) (granted : grantTo s = .relay e)
    (guarded : guardHolds s e.window e.op = true) : arbitrate s = arbitrate (refuseAtDispatch e s) := by
  have fuel : s.relay.queue.length = (refuseAtDispatch e s).relay.queue.length + 1 := by
    rw [refuseAtDispatch_queue, held]
    rfl
  calc arbitrate s = grants s.relay.queue.length (refuseAtDispatch e s) := by
        simp only [arbitrate, grants, linkIdle_of idle, if_true, granted, guarded]
    _ = arbitrate (refuseAtDispatch e s) := by rw [fuel, arbitrate]

theorem grantTo_nobody (none_ : pollHead s = none) (empty : s.relay.queue = []) : grantTo s = .nobody := by
  rw [grantTo, none_, empty]

theorem grantTo_poll {c : Channel} (head : pollHead s = some c)
    (first : s.relay.queue = [] ∨ isLate s c = true ∨ s.relay.lastServed = .relay) : grantTo s = .poll c := by
  cases held : s.relay.queue with
  | nil => rw [grantTo, head, held]
  | cons e rest =>
    rw [grantTo, head, held]
    simp only
    rcases first with empty | late | served
    · exact absurd held (by rw [empty]; exact nofun)
    · rw [if_pos late]
    · rw [if_pos served, ite_self]

theorem grantTo_relay (held : s.relay.queue = e :: rest)
    (first : pollHead s = none ∨ (s.relay.lastServed = .poll ∧ ∀ c, pollHead s = some c → isLate s c = false)) :
    grantTo s = .relay e := by
  cases head : pollHead s with
  | none => rw [grantTo, head, held]
  | some c =>
    rcases first with none_ | ⟨served, early⟩
    · exact absurd head (by rw [none_]; exact nofun)
    · rw [grantTo, head, held]
      simp only [early c head, served, Bool.false_eq_true, if_false, reduceCtorEq]

end

theorem isLate_eq (s : State) (c : Channel) :
    isLate s c = s.probe.chans[c].joined.any fun j =>
      decide (ms (s.probe.chans[c].interval.getD (s.probe.poll.classInterval s.probe.table[c].interval) / 2) ≤ s.now - j) := by
  unfold isLate judgedInterval
  cases s.probe.chans[c].joined <;> rfl

theorem effectiveInterval_eq (s : State) (c : Channel) :
    effectiveInterval s c =
      if s.probe.table[c].coldDoubling = true ∧ condition s 3 = true
      then s.probe.poll.classInterval s.probe.table[c].interval / 2
      else s.probe.poll.classInterval s.probe.table[c].interval := by
  have cold : condition s 3 = anyCold s := condition_base s 3
  simp only [effectiveInterval, cold, Bool.and_eq_true]

/-- Settles O57: on an idle link a grant is `grantTo`'s choice, which `pollHead_iff` makes plain; a refused re-check uses one
unit of `grants`' fuel and one command of the relay's. -/
theorem arbiterAlternatesUnlessAPollIsLate : Obligations.ArbiterAlternatesUnlessAPollIsLate := by
  unfold Obligations.ArbiterAlternatesUnlessAPollIsLate
  intro s queued due head classed late begun
  have headIff (c : Channel) : pollHead s = some c ↔ head c := (pollHead_iff s c).trans (leadsPolls_iff s c)
  have lateEq (c : Channel) : isLate s c = late c := isLate_eq s c
  have headNone (h : ∀ c, queued c = false) : pollHead s = none := pollHead_none h
  refine ⟨arbitrate_busy, fun empty none_ => arbitrate_nobody (grantTo_nobody (headNone none_) empty),
    fun c idle leads first => ?_, fun e rest held idle first => ?_⟩
  · intro entry i
    have granted : grantTo s = .poll c := grantTo_poll ((headIff c).mpr leads) (lateEq c ▸ first)
    have interval : effectiveInterval s c = i := effectiveInterval_eq s c
    rw [arbitrate_poll idle granted, ← interval]
    rfl
  · have granted : grantTo s = .relay e := grantTo_relay held <| first.imp headNone fun ⟨served, early⟩ =>
      ⟨served, fun c leads => (lateEq c).trans (early c ((headIff c).mp leads))⟩
    refine ⟨arbitrate_relay idle granted, fun guarded => ?_⟩
    rw [arbitrate_refused held idle granted guarded, refuseAtDispatch, held]
    rfl

/-! ### LOAD_CHANNEL (R45, R46) -/

theorem refuseAtDispatch_host (e : RelayEntry) (s : State) : (refuseAtDispatch e s).hpc.host = s.hpc.host := by
  rw [refuseAtDispatch, reportRelayEmpty_host, countEvent_hpc, recordError_hpc, relayReply, placeReply_hpc]

theorem grants_host (n : Nat) (s : State) : (grants n s).hpc.host = s.hpc.host := by
  induction n generalizing s with
  | zero => rfl
  | succ n ih =>
    unfold grants
    split
    · split
      · rfl
      · rfl
      · split
        · rw [ih, refuseAtDispatch_host]
        · rfl
    · rfl

theorem arbitrate_host (s : State) : (arbitrate s).hpc.host = s.hpc.host := grants_host _ s

theorem staleSlot_hpc (c : Channel) (s : State) (i : Slot) : (staleSlot c s i).hpc = s.hpc := by
  unfold staleSlot
  split
  · split
    · exact staleRule_hpc ..
    · rfl
  · rfl

theorem staleReport_hpc (c : Channel) (s : State) : (staleReport c s).hpc = s.hpc :=
  List.foldlRecOn _ _ (motive := fun t => t.hpc = s.hpc) rfl fun t h i _ => (staleSlot_hpc c t i).trans h

theorem HostState.gate_of_delivers {h : HostState} (e : h.delivers = true) : h ≠ .preheat ∧ h ≠ .soak := by
  revert e
  cases h <;> decide

/-- The gate has no effect while the receiver is enabled. -/
theorem gateReport_delivers {s : State} (delivers : s.hpc.host.delivers = true) (c : Channel) : gateReport c s = s := by
  obtain ⟨preheat, soak⟩ := HostState.gate_of_delivers delivers
  rw [gateReport, evaluateGate_other preheat soak, ite_self]

section
variable (s : State) (l : ChannelLoad)

theorem sourceChanges_iff (old new : ChannelEntry) :
    sourceChanges old new = true ↔ old.valid = false ∨ new.valid = false ∨ old.module ≠ new.module
      ∨ old.register ≠ new.register ∨ old.kind ≠ new.kind := by
  simp only [sourceChanges, Bool.or_eq_true, Bool.not_eq_true', decide_eq_true_eq, or_assoc]

/-- The channel's schedule after a load, its sample state kept (R46). -/
def rescheduled : ChannelState :=
  let soon : Option Nat := if l.entry.valid then some s.now else none
  { s.probe.chans[l.channel] with
    poll := if l.entry.valid then .queued else .off, due := soon, joined := soon, interval := none }

/-- The state with the entry of a LOAD_CHANNEL, its poll in flight disowned, and a channel state `y`. -/
def channelLoaded (y : ChannelState) : State :=
  { s with
    probe := { s.probe with table := vset s.probe.table l.channel l.entry, chans := vset s.probe.chans l.channel y }
    relay.link := s.relay.link.map fun k => if k.use = .poll l.channel true then { k with use := .poll l.channel false } else k }

theorem disownPoll_eq (c : Channel) (s : State) :
    disownPoll c s =
      { s with relay.link := s.relay.link.map fun k => if k.use = .poll c true then { k with use := .poll c false } else k } := by
  have disowned (k : Link) : (match k.use with
      | .poll d owned => { k with use := .poll d (owned && d ≠ c) }
      | .relay => k
      | .orphan => k) = if k.use = .poll c true then { k with use := .poll c false } else k := by
    obtain ⟨use, request, timeout⟩ := k
    cases use with
    | relay => rfl
    | orphan => rfl
    | poll d owned =>
      by_cases same : d = c
      · subst same
        cases owned <;> simp
      · simp [same]
  exact congrArg (fun f => { s with relay := { s.relay with link := s.relay.link.map f } }) (funext disowned)

theorem reloadedChannel_eq (t : State) (now : t.now = s.now) (old : ChannelEntry) :
    reloadedChannel t old l.entry s.probe.chans[l.channel] =
      if sourceChanges old l.entry then { rescheduled s l with last := none, misses := 0, missing := false }
      else rescheduled s l := by
  unfold reloadedChannel rescheduled
  rw [now]
  cases l.entry.valid <;> rfl

theorem setChan_channelLoaded (y z : ChannelState) : setChan l.channel z (channelLoaded s l y) = channelLoaded s l z :=
  congrArg (fun v => { channelLoaded s l y with probe := { (channelLoaded s l y).probe with chans := v } })
    (vset_vset s.probe.chans l.channel y z)

theorem reloadChannel_eq :
    reloadChannel l s =
      if sourceChanges s.probe.table[l.channel] l.entry then
        channelLoaded s l { rescheduled s l with last := none, misses := 0, missing := false }
      else checkMissing l.channel (channelLoaded s l (rescheduled s l)) := by
  have placed (y : ChannelState) :
      setChan l.channel y (disownPoll l.channel { s with probe.table := vset s.probe.table l.channel l.entry })
        = channelLoaded s l y := by
    rw [disownPoll_eq]
    rfl
  simp only [reloadChannel, reloadedChannel_eq s l s rfl, placed]
  split <;> rfl

end

section
variable {s : State} {c : Channel}

theorem checkMissing_kept (kept : s.probe.chans[c].missing = true ∨ s.probe.chans[c].misses < s.probe.table[c].staleLimit) :
    checkMissing c s = s := by
  refine if_neg fun h => ?_
  obtain ⟨present, reached⟩ := Bool.and_eq_true_iff.mp h
  rcases kept with missing | few
  · rw [missing] at present
    exact absurd present (by decide)
  · exact absurd (of_decide_eq_true reached) (Nat.not_le.mpr few)

theorem checkMissing_becomes (present : s.probe.chans[c].missing = false)
    (reached : s.probe.table[c].staleLimit ≤ s.probe.chans[c].misses) : checkMissing c s = becomeMissing c s :=
  if_pos (Bool.and_eq_true_iff.mpr ⟨by rw [present]; rfl, decide_eq_true reached⟩)

/-- A missing episode while the receiver is enabled (R57). -/
theorem becomeMissing_delivers (delivers : s.hpc.host.delivers = true) (c : Channel) :
    becomeMissing c s = staleReport c (recordError .probeMissing { index := some c.val }
      (setChan c { s.probe.chans[c] with missing := true } s)) := by
  refine gateReport_delivers ?_ c
  rw [staleReport_hpc, recordError_hpc]
  exact delivers

end

/-- Settles O23: the reload without the arbiter is `reloadChannel_eq`; the cold-start gate does nothing where frames are taken. -/
theorem loadChannelReschedulesTheChannel : Obligations.LoadChannelReschedulesTheChannel := by
  unfold Obligations.LoadChannelReschedulesTheChannel
  intro s tag l ready storing fits c old new x source soon y loaded
  have owner : exec (.loadChannel tag (channelBytes l)) s = upon s (supervisorOp tag 0x22 (applyLoadChannel l)) :=
    load_exec ready storing (channelBytes_length l) (readChannel_channelBytes fits) rfl
  have sourceIff : sourceChanges old new = true ↔ source := sourceChanges_iff old new
  have done {t : State} (reloaded : reloadChannel l s = t) (host : t.hpc = s.hpc) :
      exec (.loadChannel tag (channelBytes l)) s = .next (replied tag .done [] (arbitrate t)) := by
    refine exec_replied ready owner (by rw [applyLoadChannel, reloaded]; rfl) ?_ (by decide)
    rw [arbitrate_host, host]
    exact ready.delivers
  have missesOf (y : ChannelState) : (channelLoaded s l y).probe.chans[c] = y := vset_self ..
  have limitOf (y : ChannelState) : (channelLoaded s l y).probe.table[c] = new := vset_self ..
  have kept (same : ¬ source) : reloadChannel l s = checkMissing c (channelLoaded s l y) := by
    rw [reloadChannel_eq, if_neg (mt sourceIff.mp same)]
    rfl
  refine ⟨fun changes => done ?_ rfl, fun same still => done ?_ rfl, fun same present reached => done ?_ ?_⟩
  · rw [reloadChannel_eq, if_pos (sourceIff.mpr changes)]
    rfl
  · rw [kept same, checkMissing_kept (by rw [missesOf, limitOf]; exact still)]
    rfl
  · rw [kept same, checkMissing_becomes (by rw [missesOf]; exact present) (by rw [missesOf, limitOf]; exact reached),
      becomeMissing_delivers (s := channelLoaded s l y) ready.delivers, setChan_channelLoaded, missesOf]
    rfl
  · rw [staleReport_hpc, recordError_hpc]

end Sys2Proof.Machine
end

section
/-! SUPPORT. Frames before they reach an owner (O53), and the take checks of READ and WRITE (O54). -/

namespace Sys2Proof.Machine
open Sys2Proof

/-! ### Every frame command goes through `takeFrame` -/

/-- The command is a frame with a tag: whatever the state, it is taken and handed on. -/
def TakesFrame (i : Instr) (tag : Tag) : Prop :=
  ∃ handOn : State → State, ∀ s, exec i s = upon s fun s => finish (takeFrame tag handOn s)

theorem recordOp_takes {i : Instr} {tag : Tag} {op : Byte} {fits : Bool} {owner : State → State × Answer}
    (hexec : ∀ s, exec i s = upon s fun s => recordOp tag op fits owner s) : TakesFrame i tag := by
  cases fits with
  | true => exact ⟨_, hexec⟩
  | false => exact ⟨answerMalformed tag op 0, hexec⟩

theorem read_takes (tag : Tag) (a : Addr) (n : Byte) : TakesFrame (.read tag a n) tag := by
  cases fits : readLengthFits n with
  | true => exact ⟨_, fun s => congrArg (upon s) (funext fun s => if_pos fits)⟩
  | false => exact ⟨_, fun s => congrArg (upon s) (funext fun s => if_neg (Bool.eq_false_iff.mp fits))⟩

theorem write_takes (tag : Tag) (a : Addr) (d : List Byte) : TakesFrame (.write tag a d) tag := by
  cases fits : writeLengthFits d with
  | true => exact ⟨_, fun s => congrArg (upon s) (funext fun s => if_pos fits)⟩
  | false => exact ⟨_, fun s => congrArg (upon s) (funext fun s => if_neg (Bool.eq_false_iff.mp fits))⟩

theorem takesFrame_of_fields {i : Instr} {tag : Tag} {a : Addr} {p : List Byte} (h : frameFields i = some (tag, a, p)) :
    TakesFrame i tag := by
  cases i
  case read => cases h; exact read_takes ..
  case write => cases h; exact write_takes ..
  case loadSequence | loadLadder | loadZone | loadBudget | loadChannel | loadPoll | loadAction | loadWindow | loadKeypad
      | loadKeymapEntry | loadKeymapSettings => all_goals (cases h; exact recordOp_takes fun _ => rfl)
  all_goals
    cases h <;> exact ⟨_, fun _ => rfl⟩

theorem readMalformed {n : Byte} (bad : readLengthFits n = false) (tag : Tag) (a : Addr) (s : State) :
    exec (.read tag a n) s = upon s fun s => finish (takeMalformed tag 0x01 a s) :=
  congrArg (upon s) (funext fun _ => if_neg (Bool.eq_false_iff.mp bad))

theorem writeMalformed {d : List Byte} (bad : writeLengthFits d = false) (tag : Tag) (a : Addr) (s : State) :
    exec (.write tag a d) s = upon s fun s => finish (takeMalformed tag 0x02 a s) :=
  congrArg (upon s) (funext fun _ => if_neg (Bool.eq_false_iff.mp bad))

theorem recordMalformed {i : Instr} {tag : Tag} {op : Byte} {fits : Bool} {owner : State → State × Answer} (bad : fits = false)
    {s : State} (hexec : exec i s = upon s fun s => recordOp tag op fits owner s) :
    exec i s = upon s fun s => finish (takeMalformed tag op 0 s) := by
  rw [hexec, bad]
  rfl

theorem malformed_of_fields {i : Instr} {tag : Tag} {a : Addr} {p : List Byte} {op : Nat}
    (fields : frameFields i = some (tag, a, p)) (code : opCode i = some op) (bad : i.wellFormed = false) (s : State) :
    exec i s = upon s fun s => finish (takeMalformed tag (BitVec.ofNat 8 op) a s) := by
  cases i
  case read => cases fields; cases code; exact readMalformed bad ..
  case write => cases fields; cases code; exact writeMalformed bad ..
  case loadSequence | loadLadder | loadZone | loadBudget | loadChannel | loadPoll | loadAction | loadWindow | loadKeypad
      | loadKeymapEntry | loadKeymapSettings => all_goals (cases fields; cases code; exact recordMalformed bad rfl)
  all_goals exact absurd bad nofun

/-! ### What the receiver does with a frame (R160 to R162) -/

theorem calm_of_deaf {s : State} (deaf : s.hpc.host.delivers = false) : Calm s :=
  calm_of_host fun drain => by rw [drain] at deaf; exact absurd deaf (by decide)

section
variable {s : State} {i : Instr} {tag : Tag}

theorem TakesFrame.deaf (takes : TakesFrame i tag) (deaf : s.hpc.host.delivers = false) : exec i s = .next s := by
  obtain ⟨handOn, hexec⟩ := takes
  rw [hexec, upon_calm (calm_of_deaf deaf), takeFrame_deaf deaf, finish, startTransmit_deaf deaf]

theorem TakesFrame.overrun (takes : TakesFrame i tag) (calm : Calm s) (delivers : s.hpc.host.delivers = true)
    (full : 12 ≤ occupied s) : exec i s = .next (startTransmit (recordError .replyOverrun { tag := some tag } s)) := by
  obtain ⟨handOn, hexec⟩ := takes
  rw [hexec, upon_calm calm, takeFrame, if_pos delivers, if_neg (show ¬ occupied s < Config.replyEntries from Nat.not_lt.mpr full), finish]

theorem exec_malformed {op : Byte} {a : Addr} (ready : Ready s)
    (hexec : exec i s = upon s fun s => finish (takeMalformed tag op a s)) :
    exec i s = .next (startTransmit (recordError .badRequest { tag := some tag, opCode := some op }
      (placeReply { tag := tag, address := a, status := .badRequest, payload := [] } s))) := by
  rw [hexec, upon_calm ready.2, takeMalformed, takeFrame_accepts ready.1, finish, answerMalformed]

end

/-- Settles O53: every frame command is a `takeFrame` (`takesFrame_of_fields`), and one that is not well formed a malformed
frame (`malformed_of_fields`). -/
theorem framesAreCheckedBeforeTheyAreTaken : Obligations.FramesAreCheckedBeforeTheyAreTaken := by
  unfold Obligations.FramesAreCheckedBeforeTheyAreTaken
  intro s dropped
  have malformedTakes (tag : Tag) (op : Byte) (a : Addr) : TakesFrame (.malformedFrame tag op a) tag :=
    ⟨answerMalformed tag op a, fun _ => rfl⟩
  have line {i : Instr} (act : State → State) (calm : Calm s) (hexec : exec i s = upon s fun s => finish (act s)) :
      exec i s = finish (act s) := hexec.trans (upon_calm calm _)
  refine ⟨fun calm => line (fun s => { s with panel.partialFrame := [] }) calm rfl, fun deaf => ?_, fun calm delivers => ?_, fun calm delivers full tag => ?_,
    fun ready tag a => ?_⟩
  · have unheard (t : State) (host : t.hpc = s.hpc) : finish (recordHostCheck t) = .next t := by
      have still : t.hpc.host.delivers = false := host ▸ deaf
      rw [recordHostCheck, if_neg (Bool.eq_false_iff.mp still), finish, startTransmit_deaf still]
    refine ⟨?_, ?_, fun tag op a => (malformedTakes tag op a).deaf deaf,
      fun i tag a p fields => (takesFrame_of_fields fields).deaf deaf⟩
    · exact (line recordHostCheck (calm_of_deaf deaf) rfl).trans (unheard s rfl)
    · exact (line (fun s => recordHostCheck { s with panel.partialFrame := [] }) (calm_of_deaf deaf) rfl).trans (unheard dropped rfl)
  · have heard (t : State) (host : t.hpc = s.hpc) :
        finish (recordHostCheck t) = .next (startTransmit (recordError .hostCheck {} t)) := by
      rw [recordHostCheck, if_pos (host ▸ delivers), finish]
    exact ⟨(line recordHostCheck calm rfl).trans (heard s rfl),
      (line (fun s => recordHostCheck { s with panel.partialFrame := [] }) calm rfl).trans (heard dropped rfl)⟩
  · exact ⟨fun op a => (malformedTakes tag op a).overrun calm delivers full,
      fun i a p fields => (takesFrame_of_fields fields).overrun calm delivers full⟩
  · exact ⟨fun op => exec_malformed ready rfl,
      fun i p op fields code bad => exec_malformed ready (malformed_of_fields fields code bad s)⟩

/-! ### The routing window (R146) -/

theorem admits_iff (w : WindowEntry) (a : Addr) :
    w.admits a = (w.valid && (allSlots.take 16).all fun i =>
      w.mask.getLsbD i.val || a.getLsbD i.val == w.base.getLsbD i.val) := by
  have index : ∀ k : Nat, k < 16 → ∃ i ∈ allSlots.take 16, i.val = k := by decide
  have small : ∀ i ∈ allSlots.take 16, i.val < 16 := by decide
  have bits : (a &&& ~~~w.mask) = (w.base &&& ~~~w.mask) ↔ ∀ i ∈ allSlots.take 16,
      (w.mask.getLsbD i.val || a.getLsbD i.val == w.base.getLsbD i.val) = true := by
    simp only [BitVec.eq_of_getLsbD_eq_iff, BitVec.getLsbD_and, BitVec.getLsbD_not, Bool.or_eq_true, beq_iff_eq]
    constructor
    · intro same i mem
      have low := small i mem
      have bit := same i.val low
      cases masked : w.mask.getLsbD i.val with
      | true => exact .inl rfl
      | false =>
        simp only [masked, low, decide_true, Bool.not_false, Bool.and_true] at bit
        exact .inr bit
    · intro same k low
      obtain ⟨i, mem, rfl⟩ := index k low
      cases masked : w.mask.getLsbD i.val with
      | true => simp
      | false =>
        have bit := (same i mem).resolve_left (by rw [masked]; decide)
        rw [bit]
  rw [WindowEntry.admits, Bool.eq_iff_iff, Bool.and_eq_true, Bool.and_eq_true, decide_eq_true_eq, List.all_eq_true, bits]

section
variable {s : State} {a : Addr} {w : Fin 8}

theorem routingWindow_some (fits : (s.relay.windows[w]).admits a = true)
    (first : ∀ v < w, (s.relay.windows[v]).admits a = false) : routingWindow s a = some w := by
  have split : ∀ w : Fin 8, allWindows = allWindows.take w.val ++ w :: allWindows.drop (w.val + 1) := by decide
  have before : ∀ w v : Fin 8, v ∈ allWindows.take w.val → v < w := by decide
  rw [routingWindow, List.head?_filter, List.find?_eq_some_iff_append]
  refine ⟨fits, _, _, split w, fun v hv => ?_⟩
  rw [first v (before w v hv)]
  rfl

theorem routingWindow_none (none_ : ∀ v : Fin 8, (s.relay.windows[v]).admits a = false) : routingWindow s a = none := by
  rw [routingWindow, List.head?_filter, List.find?_eq_none]
  exact fun v _ => Bool.eq_false_iff.mp (none_ v)

theorem route_of (routed : routingWindow s a = some w) :
    route s a = if (s.relay.windows[w]).registerOf a ≤ 255 then some (w, (s.relay.windows[w]).registerOf a) else none := by
  rw [route, routed]

end

theorem access_admits_iff (x : Access) (op : RelayOp) :
    x.admits op = true ↔ x = .readWrite ∨ x = (if op = .read then .readOnly else .writeOnly) := by
  cases x <;> cases op <;> decide

theorem guardHolds_eq (s : State) (w : Fin 8) (op : RelayOp) :
    guardHolds s w op = (List.finRange 4).any fun y =>
      match s.acts.entries[slotOf w y] with
      | some (.guard g) => g.window = w && (if op = .read then g.coversRead else g.coversWrite) && condition s g.condition
      | _ => false := by
  have covers (g : GuardRule) : g.covers op = if op = .read then g.coversRead else g.coversWrite := by cases op <;> rfl
  have slots : setSlots w = (List.finRange 4).map (slotOf w) := rfl
  simp only [guardHolds, slots, List.any_map, covers]
  rfl

/-! ### The take checks (R147) -/

theorem refuseRelayed_recorded (q : Relayed) (st : Status) (c : ErrorClass) (f : ErrorFields) (s : State) :
    refuseRelayed q st (some (c, f)) s = countEvent .relayRefused (recordError c f
      (placeReply { tag := q.tag, address := q.address, status := st, payload := [] } s)) := rfl

section
variable {s : State} {q : Relayed} {w : Fin 8} {register : Nat}

theorem takeRelayed_drain (drain : s.hpc.host = .drain) : takeRelayed q s = refuseRelayed q .state none s := if_pos drain

theorem takeRelayed_unrouted (host : s.hpc.host ≠ .drain) (unrouted : route s q.address = none) :
    takeRelayed q s = refuseRelayed q .noTarget (some (.noTarget, tagAddress q)) s := by
  rw [takeRelayed, if_neg host, unrouted]

/-- The checks of Table 9-2 behind the routing. -/
theorem takeRelayed_routed (host : s.hpc.host ≠ .drain) (routed : route s q.address = some (w, register)) :
    takeRelayed q s =
      if (s.relay.windows[w]).access.admits q.op = false then refuseRelayed q .denied (some (.denied, tagAddressWindow q w)) s
      else if guardHolds s w q.op = true then refuseRelayed q .guarded (some (.guarded, tagAddressWindow q w)) s
      else if (s.relay.queue.any fun e => e.tag = q.tag) = true then refuseRelayed q .tagBusy (some (.tagBusy, tagAddress q)) s
      else if 8 ≤ s.relay.queue.length then refuseRelayed q .queueFull (some (.queueFull, tagAddress q)) s
      else admitRelay q w register s := by
  rw [takeRelayed, if_neg host, routed]
  simp only [Bool.not_eq_true']
  rfl

end

/-- Settles O54: READ and WRITE both hand `takeRelayed` their fields, and its checks come in the order of Table 9-2. -/
theorem takeChecksRefuseInOrder : Obligations.TakeChecksRefuseInOrder := by
  unfold Obligations.TakeChecksRefuseInOrder
  intro s tag a n d ready matched routed register guarded busy takes
  have matchedEq (w : Fin 8) : (s.relay.windows[w]).admits a = matched w := admits_iff _ a
  have accessIff (w : Fin 8) (op : RelayOp) := access_admits_iff (s.relay.windows[w]).access op
  have checks (c : Instr) (op : RelayOp) (length : Nat) (data : List Byte)
      (hexec : exec c s = upon s fun s => finish (takeFrame tag
        (takeRelayed { tag := tag, op := op, address := a, length := length, data := data }) s)) : takes c op length data := by
    unfold takes
    intro refused admits
    have run {t : State} (taken : takeRelayed { tag := tag, op := op, address := a, length := length, data := data } s = t) :
        exec c s = .next (startTransmit t) := by
      rw [hexec, upon_calm ready.2, takeFrame_accepts ready.1, taken, finish]
    have unrouted (host : s.hpc.host ≠ .drain) (none_ : route s a = none) :
        exec c s = refused .noTarget (recordError .noTarget { tag := some tag, address := some a }) :=
      run (takeRelayed_unrouted host none_)
    refine ⟨fun drain => run (takeRelayed_drain drain), fun host none_ => unrouted host ?_, fun w host ⟨fits, first⟩ => ?_⟩
    · rw [route, routingWindow_none fun v => (matchedEq v).trans (none_ v)]
    · have window : routingWindow s a = some w :=
        routingWindow_some ((matchedEq w).trans fits) fun v lower => (matchedEq v).trans (first v lower)
      refine ⟨fun high => unrouted host ?_, ?_⟩
      · exact (route_of window).trans (if_neg (Nat.not_le.mpr high))
      · have routed (low : register w ≤ 255) : route s a = some (w, register w) := (route_of window).trans (if_pos low)
        have decided (low : register w ≤ 255) := takeRelayed_routed
          (q := { tag := tag, op := op, address := a, length := length, data := data }) host (routed low)
        have access (yes : admits w) : ¬ (s.relay.windows[w]).access.admits op = false :=
          Bool.not_eq_false _ ▸ (accessIff w op).mpr yes
        have unguarded (no : guarded w op = false) : ¬ guardHolds s w op = true := by rw [guardHolds_eq]; exact Bool.eq_false_iff.mp no
        have free (no : busy = false) : ¬ busy = true := Bool.eq_false_iff.mp no
        refine ⟨fun low denied => run ?_, fun low yes holds => run ?_, fun low yes open_ again => run ?_,
          fun low yes open_ new full => run ?_, fun low yes open_ new room => run ?_⟩
        · have denied : (s.relay.windows[w]).access.admits op = false := Bool.eq_false_iff.mpr (mt (accessIff w op).mp denied)
          exact (decided low).trans (if_pos denied)
        · have holds : guardHolds s w op = true := (guardHolds_eq s w op).trans holds
          exact (decided low).trans ((if_neg (access yes)).trans (if_pos holds))
        · exact (decided low).trans ((if_neg (access yes)).trans ((if_neg (unguarded open_)).trans (if_pos again)))
        · exact (decided low).trans ((if_neg (access yes)).trans ((if_neg (unguarded open_)).trans
            ((if_neg (free new)).trans (if_pos full))))
        · exact (decided low).trans ((if_neg (access yes)).trans ((if_neg (unguarded open_)).trans
            ((if_neg (free new)).trans (if_neg (Nat.not_le.mpr room)))))
  refine ⟨fun low high => checks _ _ _ _ ?_, fun low high => checks _ _ _ _ ?_⟩
  · have fits : readLengthFits n = true := by simp only [readLengthFits, low, high, decide_true, Bool.and_self]
    exact congrArg (upon s) (funext fun s => if_pos fits)
  · have fits : writeLengthFits d = true := by simp only [writeLengthFits, low, high, decide_true, Bool.and_self]
    exact congrArg (upon s) (funext fun s => if_pos fits)

end Sys2Proof.Machine
end

section
/-! SUPPORT. C-port replies, and the end of a relayed transaction (O55). -/

namespace Sys2Proof.Machine
open Sys2Proof

/-! ### What the bytes of a reply are (Table 10-7, R149) -/

/-- The bytes of a reply before its check. -/
def replyBody (m : Nat) (q a : Byte) (data : List Byte) : List Byte := byte1 m ++ [q, a] ++ byte1 data.length ++ data

section
variable (b : List Byte)

theorem parseReply_partly (h : b.length < 4 ∨ ((b.getD 3 0).toNat ≤ 16 ∧ b.length < 6 + (b.getD 3 0).toNat)) :
    parseReply b = .incomplete := by
  by_cases short : b.length < 4
  · exact if_pos short
  · obtain ⟨fits, few⟩ := h.resolve_left short
    exact (if_neg short).trans ((if_neg (Nat.not_lt.mpr fits)).trans (if_pos few))

theorem parseReply_broken (long : 4 ≤ b.length) (h : 16 < (b.getD 3 0).toNat ∨ (6 + (b.getD 3 0).toNat ≤ b.length
    ∧ crc16 (b.take (4 + (b.getD 3 0).toNat)) ≠ word16 b (4 + (b.getD 3 0).toNat))) : parseReply b = .bad := by
  refine (if_neg (Nat.not_lt.mpr long)).trans ?_
  by_cases long16 : 16 < (b.getD 3 0).toNat
  · exact if_pos long16
  · obtain ⟨whole, wrong⟩ := h.resolve_left long16
    refine (if_neg long16).trans ((if_neg (Nat.not_lt.mpr whole)).trans ?_)
    by_cases answer : u8 b 2 ≠ 1 ∧ u8 b 2 ≠ 2
    · exact if_pos answer
    · exact (if_neg answer).trans (if_pos wrong)

end

section
variable {m : Nat} {q a : Byte} {data : List Byte}

theorem replyBody_length (m : Nat) (q a : Byte) (data : List Byte) : (replyBody m q a data).length = 4 + data.length := by
  simp only [replyBody, byte1, List.length_append, List.length_cons, List.length_nil]

/-- The reply with any check bytes behind it. -/
theorem parseReply_body (module : m ≤ 31) (short : data.length ≤ 16) (k : Word) :
    parseReply (replyBody m q a data ++ wordBytes k) =
      if a ≠ 1 ∧ a ≠ 2 then .bad
      else if crc16 (replyBody m q a data) ≠ k then .bad else .good m q (a = 1) data := by
  have check : (wordBytes k).length = 2 := rfl
  have length : (replyBody m q a data ++ wordBytes k).length = 6 + data.length := by
    rw [List.length_append, replyBody_length, check]
    omega
  have count : u8 (replyBody m q a data ++ wordBytes k) 3 = data.length := by
    show (BitVec.ofNat 8 data.length).toNat = data.length
    rw [BitVec.toNat_ofNat]
    omega
  have name : u8 (replyBody m q a data ++ wordBytes k) 0 = m := by
    show (BitVec.ofNat 8 m).toNat = m
    rw [BitVec.toNat_ofNat]
    omega
  have answered (n : Nat) (small : n < 256) : u8 (replyBody m q a data ++ wordBytes k) 2 = n ↔ a = BitVec.ofNat 8 n := by
    show a.toNat = n ↔ _
    rw [← BitVec.toNat_inj, BitVec.toNat_ofNat, Nat.mod_eq_of_lt small]
  have carried : ((replyBody m q a data ++ wordBytes k).drop 4).take data.length = data := by
    show (data ++ wordBytes k).take data.length = data
    rw [List.take_left]
  have body : (replyBody m q a data ++ wordBytes k).take (4 + data.length) = replyBody m q a data := by
    rw [← replyBody_length m q a data, List.take_left]
  have read : word16 (replyBody m q a data ++ wordBytes k) (4 + data.length) = k := by
    rw [← replyBody_length m q a data, word16_append_wordBytes]
  unfold parseReply
  simp only [length, count, name, carried, body, read, answered 1 (by decide), answered 2 (by decide), ne_eq]
  rw [if_neg (by omega), if_neg (by omega), if_neg (by omega)]
  rfl

theorem parseReply_fieldReply (module : m ≤ 31) (short : data.length ≤ 16) :
    parseReply (fieldReplyBytes m q a data) = if a ≠ 1 ∧ a ≠ 2 then .bad else .good m q (a = 1) data := by
  have whole : fieldReplyBytes m q a data = replyBody m q a data ++ wordBytes (crc16 (replyBody m q a data)) := rfl
  rw [whole, parseReply_body module short, if_neg (not_not_intro (rfl : crc16 (replyBody m q a data) = _))]

end

/-! ### A reply taken -/

/-- The state with no bytes of a reply in progress. -/
def received (s : State) : State := { s with relay.partialReply := [] }

section
variable {s : State} {b : List Byte} {first : Bool} {l : Link}

theorem exec_fieldReply (calm : Calm s) (supplied : s.power ≠ .off) :
    exec (.fieldReply b first) s = .next (startTransmit (takeReply (parseReply b) first (received s))) := by
  rw [exec, execFieldReply, upon_calm calm, if_neg supplied]
  rfl

theorem exec_fieldTimeout (calm : Calm s) {t : Timer} (link : s.relay.link = some l) (sent : l.timeout = some t) :
    exec (.fieldTimeoutExpiry first) s
      = .next (startTransmit (endTransaction l.use .timeout first { s with now := max s.now t.deadline })) := by
  rw [exec, execFieldTimeoutExpiry, upon_calm calm]
  simp only [link, sent]
  rfl

theorem takeReply_idle {f : FieldReply} (whole : f ≠ .incomplete) (idle : s.relay.link = none) :
    takeReply f first s = lateReply s := by
  cases f with
  | incomplete => exact absurd rfl whole
  | bad => simp only [takeReply, idle]
  | good => simp only [takeReply, idle]

theorem takeReply_bad (link : s.relay.link = some l) : takeReply .bad first s = endTransaction l.use .checkFailed first s := by
  simp only [takeReply, link]

theorem takeReply_named (link : s.relay.link = some l) (ack : Bool) (data : List Byte) :
    takeReply (.good l.request.module l.request.sequence ack data) first s
      = endTransaction l.use (if ack then .ack data else .nak) first s := by
  simp only [takeReply, link, and_self, if_true]

theorem takeReply_misnamed (link : s.relay.link = some l) {m : Nat} {q : Byte}
    (other : m ≠ l.request.module ∨ q ≠ l.request.sequence) (ack : Bool) (data : List Byte) :
    takeReply (.good m q ack data) first s = lateReply s := by
  simp only [takeReply, link]
  exact if_neg (not_and_or.mpr other)

end

/-- How the answer byte and the data of a well-checked reply end a transaction. -/
def fieldResult (a : Byte) (data : List Byte) : FieldResult :=
  if a = 1 then .ack data else if a = 2 then .nak else .checkFailed

theorem takeReply_answered {s : State} {l : Link} {first : Bool} (link : s.relay.link = some l) (module : l.request.module ≤ 31)
    (a : Byte) {data : List Byte} (short : data.length ≤ 16) :
    takeReply (parseReply (fieldReplyBytes l.request.module l.request.sequence a data)) first s
      = endTransaction l.use (fieldResult a data) first s := by
  rw [parseReply_fieldReply module short, fieldResult]
  by_cases ack : a = 1
  · subst ack
    exact takeReply_named link true data
  · by_cases nak : a = 2
    · subst nak
      exact takeReply_named link false data
    · rw [if_pos ⟨ack, nak⟩, if_neg ack, if_neg nak]
      exact takeReply_bad link

/-! ### The end of a relayed transaction (R151) -/

/-- The state in which an in-flight command's reply is placed: the command has left the relay, the link is IDLE. -/
def landed (rest : List RelayEntry) (s : State) : State := { s with relay := { s.relay with queue := rest, link := none } }

section
variable {s : State} {e : RelayEntry} {rest : List RelayEntry} {first : Bool} {r : FieldResult} {st : Status} {payload : List Byte}

/-- A relayed transaction that ends with an outcome of Table 9-4 which records an error. -/
theorem endTransaction_fails (held : s.relay.queue = e :: rest) {c : ErrorClass}
    (outcome : relayOutcome e r = (st, payload, some c)) :
    endTransaction .relay r first s = arbitrate (reportRelayEmpty (recordError c
      { tag := some e.tag, address := some e.address, index := some e.window.val }
      (placeReply { tag := e.tag, address := e.address, status := st, payload := payload } (landed rest s)))) := by
  have idle : (idleLink s).relay.queue = e :: rest := held
  simp only [endTransaction, answerRelayed, idle, outcome]
  rfl

/-- A relayed transaction that ends DONE. -/
theorem endTransaction_done (held : s.relay.queue = e :: rest) (outcome : relayOutcome e r = (st, payload, none)) :
    endTransaction .relay r first s = arbitrate (reportRelayEmpty (countEvent .relayDone
      (placeReply { tag := e.tag, address := e.address, status := st, payload := payload } (landed rest s)))) := by
  have idle : (idleLink s).relay.queue = e :: rest := held
  simp only [endTransaction, answerRelayed, idle, outcome]
  rfl

end

theorem relayOutcome_read {e : RelayEntry} (read : e.op = .read) {data : List Byte} (asked : data.length = e.length) :
    relayOutcome e (.ack data) = (.done, data, none) := by
  simp only [relayOutcome, read, asked, if_true]

theorem relayOutcome_write {e : RelayEntry} (write : e.op = .write) : relayOutcome e (.ack []) = (.done, [], none) := by
  simp only [relayOutcome, write, if_true]

theorem relayOutcome_other {e : RelayEntry} {data : List Byte}
    (other : (e.op = .read ∧ data.length ≠ e.length) ∨ (e.op = .write ∧ data ≠ [])) :
    relayOutcome e (.ack data) = (.fieldCheck, [], some .fieldCheck) := by
  rcases other with ⟨read, length⟩ | ⟨write, some_⟩
  · simp only [relayOutcome, read, length, if_false]
  · simp only [relayOutcome, write, some_, if_false]

/-- Settles O55: a reply's bytes give one of three readings (`parseReply_partly`, `parseReply_broken`, `parseReply_fieldReply`),
the transaction in flight ends with the result (`takeReply_answered`), and Table 9-4 gives the outcome. -/
theorem relayedTransactionsEndAsTheirReplySays : Obligations.RelayedTransactionsEndAsTheirReplySays := by
  unfold Obligations.RelayedTransactionsEndAsTheirReplySays
  intro s first calm clean idle count partly broken
  have bad (b : List Byte) (h : broken b) : parseReply b = .bad := parseReply_broken b h.1 h.2
  have taken (supplied : s.power ≠ .off) {b : List Byte} {t : State} (ends : takeReply (parseReply b) first (received s) = t) :
      exec (.fieldReply b first) s = .next (startTransmit t) := by rw [exec_fieldReply calm supplied, ends]
  have whole {m : Nat} {q a : Byte} {data : List Byte} (module : m ≤ 31) (short : data.length ≤ 16) :
      parseReply (fieldReplyBytes m q a data) ≠ .incomplete := by
    rw [parseReply_fieldReply module short]
    split <;> exact nofun
  have gap : exec .cPortReplyGap s = .next (startTransmit clean) := by
    rw [exec, execCPortReplyGap, upon_calm calm]
    rfl
  have orphaned {l : Link} (link : s.relay.link = some l) (orphan : l.use = .orphan) {r : FieldResult} (whole : r ≠ .timeout) :
      endTransaction l.use r first (received s) = arbitrate (countEvent .lateReply (idle clean)) := by
    rw [orphan]
    cases r with
    | timeout => exact absurd rfl whole
    | ack | nak | checkFailed => rfl
  have badEnds {b : List Byte} (h : parseReply b = .bad) {l : Link} (link : s.relay.link = some l) :
      takeReply (parseReply b) first (received s) = endTransaction l.use .checkFailed first (received s) := by
    rw [h]
    exact takeReply_bad (s := received s) link
  refine ⟨fun b supplied => ⟨fun h => taken supplied ?_, fun h none_ => taken supplied ?_, fun h l link orphan => taken supplied ?_,
    fun h l link relayed e rest held => taken supplied ?_⟩, fun none_ => ?_, gap,
    fun supplied none_ m q a data module short => taken supplied ?_, fun l link => ⟨fun unsent => ?_, fun sent => ?_, ?_, ?_⟩⟩
  · rw [parseReply_partly b h]
    rfl
  · rw [bad b h]
    exact takeReply_idle (s := received s) nofun none_
  · exact (badEnds (bad b h) link).trans (orphaned link orphan nofun)
  · rw [badEnds (bad b h) link, relayed]
    exact endTransaction_fails (s := received s) held rfl
  · rw [exec, execCPortRequestEnd, upon_calm calm]
    simp only [none_]
    rfl
  · exact takeReply_idle (s := received s) (whole module short) none_
  · rw [exec, execCPortRequestEnd, upon_calm calm]
    simp only [link, unsent]
    rfl
  · obtain ⟨t, sent⟩ := Option.ne_none_iff_exists'.mp sent
    rw [exec, execCPortRequestEnd, upon_calm calm]
    simp only [link, sent]
    rfl
  · intro supplied module
    have answered (a : Byte) {data : List Byte} (short : data.length ≤ 16) :
        takeReply (parseReply (fieldReplyBytes l.request.module l.request.sequence a data)) first (received s)
          = endTransaction l.use (fieldResult a data) first (received s) :=
      takeReply_answered (s := received s) link module a short
    refine ⟨fun m r a data named answer short other => taken supplied ?_, fun orphan a data short => taken supplied ?_,
      fun e rest held relayed => ?_⟩
    · have known : ¬ (a ≠ 1 ∧ a ≠ 2) := fun h => answer.elim h.1 h.2
      rw [parseReply_fieldReply named short, if_neg known]
      exact takeReply_misnamed (s := received s) link other _ _
    · refine (answered a short).trans (orphaned link orphan ?_)
      unfold fieldResult
      split
      · exact nofun
      · split <;> exact nofun
    · have ends {a : Byte} {data : List Byte} (short : data.length ≤ 16) {t : State}
          (ended : endTransaction .relay (fieldResult a data) first (received s) = t) :
          exec (.fieldReply (fieldReplyBytes l.request.module l.request.sequence a data) first) s = .next (startTransmit t) :=
        taken supplied ((answered a short).trans (relayed ▸ ended))
      refine ⟨fun data read asked short => ends (asked ▸ short) ?_, fun write => ends (Nat.zero_le _) ?_,
        fun data short other => ends short ?_, fun data short => ends short ?_, fun a data short ack nak => ends short ?_,
        fun a data k short wrong => taken supplied ?_⟩
      · exact endTransaction_done (s := received s) held (relayOutcome_read read asked)
      · exact endTransaction_done (s := received s) held (relayOutcome_write write)
      · exact endTransaction_fails (s := received s) held (relayOutcome_other other)
      · exact endTransaction_fails (s := received s) held rfl
      · rw [fieldResult, if_neg ack, if_neg nak]
        exact endTransaction_fails (s := received s) held rfl
      · have differs : crc16 (replyBody l.request.module l.request.sequence a data) ≠ k := Ne.symm wrong
        have failed : parseReply (replyBody l.request.module l.request.sequence a data ++ wordBytes k) = .bad := by
          rw [parseReply_body module short, if_pos differs, ite_self]
        refine (badEnds failed link).trans ?_
        rw [relayed]
        exact endTransaction_fails (s := received s) held rfl
  · intro t sent late
    refine ⟨fun orphan => ?_, fun e rest held relayed => ?_⟩
    · rw [exec_fieldTimeout calm link sent, orphan]
      rfl
    · rw [exec_fieldTimeout calm link sent, relayed]
      exact congrArg (fun t => Host.Outcome.next (startTransmit t)) (endTransaction_fails (s := late) held rfl)

end Sys2Proof.Machine
end

section
/-! SUPPORT. The end of a poll, and the channel it belongs to (O56). -/

namespace Sys2Proof.Machine
open Sys2Proof

/-! ### Sample values (Table 3-4) -/

theorem u16_byte2 {n : Nat} (h : n ≤ 65535) : u16 (byte2 n) 0 = n := by
  simp only [u16, u8, byte2, List.getD_cons_zero, List.getD_cons_succ, BitVec.toNat_ofNat]
  omega

theorem s16_int2 {v : Int} (low : -32768 ≤ v) (high : v ≤ 32767) : s16 (int2 v) 0 = v := by
  rw [s16, int2, u16_byte2 (by omega)]
  split <;> omega

/-! ### The zone records under a sample's report -/

section
variable (s : State)

theorem moveHost_zoneRecords (new : HostState) : (moveHost new s).heat.records = s.heat.records := by
  rw [moveHost_heat, budgeted_eq]

theorem beginRailStep_zoneRecords (k : Rail) : (beginRailStep k s).heat.records = s.heat.records := by
  unfold beginRailStep
  split <;> rfl

theorem enterRails_zoneRecords (kind : StartKind) : (enterRails kind s).heat.records = s.heat.records := by
  unfold enterRails
  dsimp only
  split
  · rw [beginRailStep_zoneRecords, moveHost_zoneRecords]
  · exact moveHost_zoneRecords ..

theorem enterSoak_zoneRecords : (enterSoak s).heat.records = s.heat.records := by
  unfold enterSoak
  dsimp only
  split
  · rw [completeSoak, enterRails_zoneRecords, moveHost_zoneRecords]
  · rw [moveHost_zoneRecords]

theorem evaluateGate_zoneRecords : (evaluateGate s).heat.records = s.heat.records := by
  unfold evaluateGate
  split
  case h_1 =>
    split
    · exact enterSoak_zoneRecords s
    · rfl
  case h_2 =>
    split
    · rfl
    · exact moveHost_zoneRecords ..
  all_goals rfl

theorem gateReport_zoneRecords (c : Channel) : (gateReport c s).heat.records = s.heat.records := by
  unfold gateReport
  split
  · exact evaluateGate_zoneRecords s
  · rfl

theorem changeLevel_zoneRecords (f : Nat → Nat) (a : LevelAction) : (changeLevel f a s).heat.records = s.heat.records := by
  rw [changeLevel_eq]

theorem tripRule_zoneRecords (i : Slot) (r : SampleRule) (cause : TripCause) (v : Option Int) :
    (tripRule i r cause v s).heat.records = s.heat.records := by
  unfold tripRule runEdge
  split
  · exact changeLevel_zoneRecords ..
  · exact changeLevel_zoneRecords ..
  · exact changeLevel_zoneRecords ..
  · rw [handNotice_heat]
    exact changeLevel_zoneRecords ..

theorem clearRule_zoneRecords (i : Slot) (r : SampleRule) : (clearRule i r s).heat.records = s.heat.records :=
  changeLevel_zoneRecords ..

theorem inactiveRule_zoneRecords (i : Slot) (r : SampleRule) : (inactiveRule i r s).heat.records = s.heat.records := by
  unfold inactiveRule
  split
  · exact clearRule_zoneRecords ..
  · rfl

theorem activeRule_zoneRecords (i : Slot) (r : SampleRule) (v : Int) : (activeRule i r v s).heat.records = s.heat.records := by
  unfold activeRule
  split
  · split
    · exact clearRule_zoneRecords ..
    · rfl
  · split
    · exact tripRule_zoneRecords ..
    · rfl

theorem reportSample_zoneRecords (i : Slot) (r : SampleRule) (v : Int) : (reportSample i r v s).heat.records = s.heat.records := by
  unfold reportSample
  split
  · rw [handNotice_heat]
  · rfl

theorem evaluateSlot_zoneRecords (c : Channel) (v : Int) (i : Slot) : (evaluateSlot c v s i).heat.records = s.heat.records := by
  unfold evaluateSlot
  split
  · split
    · split
      · rw [reportSample_zoneRecords, activeRule_zoneRecords]
      · exact inactiveRule_zoneRecords ..
    · rfl
  · rfl

theorem evaluateSample_zoneRecords (c : Channel) (v : Int) : (evaluateSample c v s).heat.records = s.heat.records :=
  List.foldlRecOn _ _ (motive := fun t => t.heat.records = s.heat.records) rfl
    fun t h i _ => (evaluateSlot_zoneRecords t c v i).trans h

theorem staleRule_zoneRecords (i : Slot) (r : SampleRule) : (staleRule i r s).heat.records = s.heat.records := by
  unfold staleRule
  split
  · split
    · rfl
    · split
      · rfl
      · exact tripRule_zoneRecords ..
  · exact inactiveRule_zoneRecords ..

theorem staleSlot_zoneRecords (c : Channel) (i : Slot) : (staleSlot c s i).heat.records = s.heat.records := by
  unfold staleSlot
  split
  · split
    · exact staleRule_zoneRecords ..
    · rfl
  · rfl

theorem staleReport_zoneRecords (c : Channel) : (staleReport c s).heat.records = s.heat.records :=
  List.foldlRecOn _ _ (motive := fun t => t.heat.records = s.heat.records) rfl
    fun t h i _ => (staleSlot_zoneRecords t c i).trans h

end

/-! ### A good sample and a miss (R54 to R57) -/

section
variable (s : State) (c : Channel)

theorem gateReport_eq :
    gateReport c s =
      if (allZones.any fun z => s.heat.records[z].gateMask && decide (s.heat.records[z].channel = c)) = true
      then evaluateGate s else s := by
  rw [gateReport, gatedZones, List.any_filter]

theorem debounceReport_eq :
    debounceReport c s =
      if (s.pad.record.zone.any fun z => decide (s.heat.records[z].channel = c)) = true then recomputeDebounce s else s := by
  unfold debounceReport
  cases s.pad.record.zone with
  | none => rfl
  | some z => simp only [Option.any_some, decide_eq_true_eq]

/-- The channel after one more miss (R56). -/
def missed : ChannelState := { s.probe.chans[c] with misses := min (s.probe.chans[c].misses + 1) 15 }

/-- A miss, up to the test for a missing episode (R56). -/
def missTaken (checked : Bool) : State :=
  let u := countEvent .pollMisses (setChan c (missed s c) s)
  if checked = true ∧ s.probe.chans[c].missing = false then recordError .fieldCheck { index := some c.val } u else u

theorem missTaken_probe (checked : Bool) :
    (missTaken s c checked).probe = { s.probe with chans := vset s.probe.chans c (missed s c) } := by
  unfold missTaken
  dsimp only
  split
  · rw [recordError_probe]
    rfl
  · rfl

theorem missTaken_channel (checked : Bool) : (missTaken s c checked).probe.chans[c] = missed s c := by
  simp only [missTaken_probe, vset_self]

theorem missTaken_heat (checked : Bool) : (missTaken s c checked).heat = s.heat := by
  unfold missTaken
  dsimp only
  split
  · rw [recordError_heat]
    rfl
  · rfl

theorem takeMiss_eq (checked : Bool) :
    takeMiss c checked s =
      if s.probe.chans[c].missing = false ∧ s.probe.table[c].staleLimit ≤ min (s.probe.chans[c].misses + 1) 15
      then becomeMissing c (missTaken s c checked) else missTaken s c checked := by
  have taken : takeMiss c checked s = checkMissing c (missTaken s c checked) := by
    simp only [takeMiss, missTaken, Bool.and_eq_true, Bool.not_eq_true']
    rfl
  rw [taken, checkMissing]
  simp only [missTaken_probe, vset_self, missed, Bool.and_eq_true, Bool.not_eq_true', decide_eq_true_eq]

end

/-! ### The end of a poll (R150) -/

theorem endTransaction_poll (c : Channel) (owned : Bool) (r : FieldResult) (first : Bool) (s : State) :
    endTransaction (.poll c owned) r first s
      = arbitrate (takeResult c owned r (if first then idleLink s else arbitrate (idleLink s))) := by
  cases first <;> rfl

theorem takeResult_owned (c : Channel) (r : FieldResult) (s : State) :
    takeResult c true r s = afterResult c (classify c r s) := if_pos rfl

theorem classify_ack {data : List Byte} (two : data.length = 2) (c : Channel) (s : State) :
    classify c (.ack data) s =
      if validSample s.probe.table[c].kind (sampleValue s.probe.table[c].kind data)
      then goodSample c (sampleValue s.probe.table[c].kind data) s else takeMiss c false s := if_pos two

theorem validSample_temperature (v : Int) : validSample .temperature v = true ↔ -550 ≤ v ∧ v ≤ 1250 := by
  simp only [validSample, Bool.and_eq_true, decide_eq_true_eq]

/-! ### The due time (R49) -/

section
variable {s : State} {c : Channel} (calm : Calm s)
include calm

theorem dueTime_waiting (poll : s.probe.chans[c].poll = .waiting) {t : Nat} (due : s.probe.chans[c].due = some t) :
    exec (.dueTimeReached c) s = .next (startTransmit (arbitrate (joinQueue c (reach t s)))) := by
  rw [exec, execDueTimeReached, upon_calm calm, poll, due]
  rfl

theorem dueTime_inFlight (poll : s.probe.chans[c].poll = .inFlight) {t : Nat} (due : s.probe.chans[c].due = some t) :
    exec (.dueTimeReached c) s
      = .next (startTransmit (setChan c { s.probe.chans[c] with poll := .inFlightDue } (reach t s))) := by
  rw [exec, execDueTimeReached, upon_calm calm, poll]
  split
  · next waiting _ => exact absurd waiting nofun
  · next t' _ here =>
    obtain rfl := Option.some.inj (here.symm.trans due)
    rfl
  · next other => exact absurd due (other t rfl)

theorem dueTime_idle (waiting : s.probe.chans[c].poll = .waiting → s.probe.chans[c].due ≠ none → False)
    (inFlight : s.probe.chans[c].poll = .inFlight → s.probe.chans[c].due ≠ none → False) :
    exec (.dueTimeReached c) s = .next (startTransmit s) := by
  rw [exec, execDueTimeReached, upon_calm calm]
  split
  · next poll due => exact (waiting poll (by rw [due]; exact nofun)).elim
  · next poll due => exact (inFlight poll (by rw [due]; exact nofun)).elim
  · rfl

end

/-- Settles O56: a poll ends by `takeReply_answered` and its result is a good sample or a miss (`takeMiss_eq`); the zone records
that say who reads the channel stand unchanged under the reports. -/
theorem pollResultsUpdateTheChannel : Obligations.PollResultsUpdateTheChannel := by
  unfold Obligations.PollResultsUpdateTheChannel
  refine ⟨fun s first l link calm c owned use => ?_, fun s c r => ?_, fun s c calm => ?_⟩
  · intro idle ends reply
    have ended (r : FieldResult) : endTransaction l.use r first (received s)
        = arbitrate (takeResult c owned r (if first then idle else arbitrate idle)) := by
      rw [use]
      exact endTransaction_poll ..
    have taken (supplied : s.power ≠ .off) {b : List Byte} {r : FieldResult}
        (end_ : takeReply (parseReply b) first (received s) = endTransaction l.use r first (received s)) :
        exec (.fieldReply b first) s = ends idle r := by rw [exec_fieldReply calm supplied, end_, ended]
    refine ⟨fun supplied module a data short => ?_, ?_, fun t sent => ?_⟩
    · have answered := taken supplied (takeReply_answered (s := received s) (first := first) link module a short)
      refine ⟨fun ack => ?_, fun nak => ?_, fun ack nak => ?_⟩
      · subst ack
        exact answered
      · subst nak
        exact answered
      · rwa [fieldResult, if_neg ack, if_neg nak] at answered
    · intro supplied b n long wrong
      refine taken supplied ?_
      rw [parseReply_broken b long wrong]
      exact takeReply_bad (s := received s) link
    · rw [exec_fieldTimeout calm link sent, use, endTransaction_poll]
      rfl
  · intro x put usesGate usesKeypad gate after good miss
    have gateEq {u : State} (records : u.heat.records = s.heat.records) : gateReport c u = gate u := by
      rw [gateReport_eq, records]
    have afterEq (u : State) : afterResult c u = after u := rfl
    have goodEq (v : Int) : afterResult c (goodSample c v s) = good v := by
      let sampled := put { x with last := some { value := v, moment := s.now }, misses := 0, missing := false }
      have records : (evaluateSample c v sampled).heat.records = s.heat.records := evaluateSample_zoneRecords sampled c v
      have pad : (gateReport c (evaluateSample c v sampled)).pad = s.pad := by rw [gateReport_pad, evaluateSample_pad]
      have zones : (gateReport c (evaluateSample c v sampled)).heat.records = s.heat.records := by
        rw [gateReport_zoneRecords, records]
      have handed : goodSample c v s = debounceReport c (gateReport c (evaluateSample c v sampled)) := rfl
      rw [handed, debounceReport_eq, pad, zones, gateEq records]
      rfl
    have missEq (checked : Bool) : afterResult c (takeMiss c checked s) = miss checked := by
      let gone := setChan c { x with misses := min (x.misses + 1) 15, missing := true } (missTaken s c checked)
      have episode : becomeMissing c (missTaken s c checked)
          = gateReport c (staleReport c (recordError .probeMissing { index := some c.val } gone)) := by
        rw [becomeMissing, missTaken_channel]
        rfl
      have records : (staleReport c (recordError .probeMissing { index := some c.val } gone)).heat.records = s.heat.records := by
        rw [staleReport_zoneRecords, recordError_heat]
        exact congrArg Heat.records (missTaken_heat s c checked)
      rw [takeMiss_eq, episode, gateEq records]
      rfl
    refine ⟨if_neg Bool.false_ne_true, fun data other => ?_, missEq true, missEq false, missEq false, fun v low high kind => ?_,
      fun v high kind => ?_⟩
    · rw [takeResult_owned]
      exact (congrArg (afterResult c) (if_neg other)).trans (missEq true)
    · have value : sampleValue s.probe.table[c].kind (int2 v) = v := by rw [kind]; exact s16_int2 low high
      have valid : validSample s.probe.table[c].kind v = true ↔ -550 ≤ v ∧ v ≤ 1250 := by rw [kind]; exact validSample_temperature v
      rw [takeResult_owned, classify_ack rfl, value]
      refine ⟨fun inside => ?_, fun outside => ?_⟩
      · rw [if_pos (valid.mpr inside), goodEq]
      · rw [if_neg (mt valid.mp outside), missEq]
    · have value : sampleValue s.probe.table[c].kind (byte2 v) = v := by
        rw [kind]
        exact congrArg Int.ofNat (u16_byte2 high)
      have valid : validSample s.probe.table[c].kind v = true := by rw [kind]; rfl
      rw [takeResult_owned, classify_ack rfl, value, if_pos valid, goodEq]
  · intro x put
    refine ⟨?_, fun idle => dueTime_idle calm (fun poll due => ?_) fun poll due => ?_⟩
    · intro t due u
      exact ⟨fun waiting => dueTime_waiting calm waiting due, fun inFlight => dueTime_inFlight calm inFlight due⟩
    · exact idle.elim due fun ⟨other, _⟩ => other poll
    · exact idle.elim due fun ⟨_, other⟩ => other poll

end Sys2Proof.Machine
end

section
/-! SUPPORT. The grant computations (O58): the leftover pass zone by zone, the period start, the immediate recomputation. -/

namespace Sys2Proof.Machine
open Sys2Proof

/-! ### The visiting order (R35) -/

/-- In the leftover pass the enabled zone `y` is visited before `z`. -/
def Earlier (records : Vector ZoneRecord 4) (y z : Zone) : Prop :=
  records[y].priority < records[z].priority ∨ (records[y].priority = records[z].priority ∧ y < z)

section
variable (records : Vector ZoneRecord 4)

theorem mem_visitOrder (z : Zone) : z ∈ visitOrder records ↔ records[z].enable = true := by
  have priorities : ∀ p : Fin 4, p ∈ ([0, 1, 2, 3] : List (Fin 4)) := by decide
  simp only [visitOrder, List.mem_flatMap, List.mem_filter, mem_allZones, true_and, Bool.and_eq_true, decide_eq_true_eq]
  exact ⟨fun ⟨_, _, enabled, _⟩ => enabled, fun enabled => ⟨_, priorities _, enabled, rfl⟩⟩

theorem visitOrder_ordered : (visitOrder records).Pairwise (Earlier records) := by
  have priorities : ([0, 1, 2, 3] : List (Fin 4)).Pairwise (· < ·) := by decide
  have zones : allZones.Pairwise (· < ·) := by decide
  refine List.pairwise_flatMap.mpr ⟨fun p _ => ?_, priorities.imp fun {p q} lower y hy z hz => ?_⟩
  · refine ((zones.filter _).imp_of_mem fun {y z} hy hz lower => ?_)
    simp only [List.mem_filter, Bool.and_eq_true, decide_eq_true_eq] at hy hz
    exact .inr ⟨hy.2.2.trans hz.2.2.symm, lower⟩
  · simp only [List.mem_filter, Bool.and_eq_true, decide_eq_true_eq] at hy hz
    exact .inl (by rw [hy.2.2, hz.2.2]; exact lower)

theorem Earlier.asymm {y z : Zone} (h : Earlier records y z) : ¬ Earlier records z y := by
  rintro (lower | ⟨same, lower⟩)
  · exact h.elim (fun below => lt_asymm below lower) fun ⟨same, _⟩ => lower.ne same.symm
  · exact h.elim (fun below => below.ne same.symm) fun ⟨_, below⟩ => lt_asymm below lower

theorem visitOrder_nodup : (visitOrder records).Nodup :=
  (visitOrder_ordered records).imp fun {y z} h same => by
    subst same
    exact h.asymm records h

end

/-! ### The leftover pass, zone by zone (R35) -/

section
variable {request current : Zone → Nat}

theorem leftoverVisit_other (acc : (Zone → Nat) × Nat) {y z : Zone} (other : y ≠ z) :
    (leftoverVisit request current acc z).1 y = acc.1 y := by
  unfold leftoverVisit
  split
  · exact if_neg other
  · rfl

theorem leftoverVisit_self (acc : (Zone → Nat) × Nat) (z : Zone) :
    (leftoverVisit request current acc z).1 z =
      if acc.1 z < request z ∧ current z ≤ acc.2 then acc.1 z + 1 else acc.1 z := by
  unfold leftoverVisit
  split
  · exact if_pos rfl
  · rfl

theorem leftoverVisit_spent (acc : (Zone → Nat) × Nat) (z : Zone) :
    (leftoverVisit request current acc z).2
      + ((leftoverVisit request current acc z).1 z - acc.1 z) * current z = acc.2 := by
  rw [leftoverVisit_self]
  unfold leftoverVisit
  split
  · next gains => rw [Nat.add_sub_cancel_left, Nat.one_mul, Nat.sub_add_cancel gains.2]
  · rw [Nat.sub_self, Nat.zero_mul, Nat.add_zero]

theorem leftover_unvisited (order : List Zone) (acc : (Zone → Nat) × Nat) {y : Zone} (unvisited : y ∉ order) :
    (order.foldl (leftoverVisit request current) acc).1 y = acc.1 y := by
  induction order generalizing acc with
  | nil => rfl
  | cons z rest ih =>
    obtain ⟨other, later⟩ := not_or.mp (mt List.mem_cons.mpr unvisited)
    rw [List.foldl_cons, ih _ later, leftoverVisit_other acc other]

/-- What the pass has left over is what it has not spent on the steps it gave. -/
theorem leftover_spent (order : List Zone) (once : order.Nodup) (acc : (Zone → Nat) × Nat) :
    (order.foldl (leftoverVisit request current) acc).2 + (order.map fun y =>
      ((order.foldl (leftoverVisit request current) acc).1 y - acc.1 y) * current y).sum = acc.2 := by
  induction order generalizing acc with
  | nil => rfl
  | cons z rest ih =>
    obtain ⟨apart, once⟩ := List.nodup_cons.mp once
    have others : (rest.map fun y =>
        ((rest.foldl (leftoverVisit request current) (leftoverVisit request current acc z)).1 y - acc.1 y) * current y)
        = rest.map fun y => ((rest.foldl (leftoverVisit request current) (leftoverVisit request current acc z)).1 y
          - (leftoverVisit request current acc z).1 y) * current y :=
      List.map_congr_left fun y hy => by
        have other : y ≠ z := fun same => apart (same ▸ hy)
        rw [leftoverVisit_other acc other]
    have spent := ih once (leftoverVisit request current acc z)
    have first := leftoverVisit_spent (request := request) (current := current) acc z
    rw [List.foldl_cons, List.map_cons, List.sum_cons, others, leftover_unvisited rest _ apart]
    omega

/-- A visited zone gains a step exactly when it is below its request and what the zones before it left covers its current. -/
theorem leftover_visited (before : List Zone) (z : Zone) (after : List Zone) (once : (before ++ z :: after).Nodup)
    (acc : (Zone → Nat) × Nat) {out : Zone → Nat} (hout : ((before ++ z :: after).foldl (leftoverVisit request current) acc).1 = out) :
    out z = if acc.1 z < request z ∧ current z + (before.map fun y => (out y - acc.1 y) * current y).sum ≤ acc.2
      then acc.1 z + 1 else acc.1 z := by
  obtain ⟨onceBefore, onceAfter, apart⟩ := List.nodup_append.mp once
  obtain ⟨notAfter, -⟩ := List.nodup_cons.mp onceAfter
  have notBefore : z ∉ before := fun h => apart z h z List.mem_cons_self rfl
  have early (y : Zone) (hy : y ∈ before) : out y = (before.foldl (leftoverVisit request current) acc).1 y := by
    have later : y ∉ z :: after := fun h => apart y hy y h rfl
    rw [← hout, List.foldl_append, leftover_unvisited _ _ later]
  have own : out z = (leftoverVisit request current (before.foldl (leftoverVisit request current) acc) z).1 z := by
    rw [← hout, List.foldl_append, List.foldl_cons, leftover_unvisited _ _ notAfter]
  have steps : (before.map fun y => (out y - acc.1 y) * current y)
      = before.map fun y => ((before.foldl (leftoverVisit request current) acc).1 y - acc.1 y) * current y :=
    List.map_congr_left fun y hy => by rw [early y hy]
  have left := leftover_spent (request := request) (current := current) before onceBefore acc
  rw [own, leftoverVisit_self, leftover_unvisited before acc notBefore, steps]
  refine if_congr (and_congr_right fun _ => ?_) rfl rfl
  omega

end

/-- The zones visited before `z` are the enabled ones earlier in the order. -/
theorem mem_before (records : Vector ZoneRecord 4) {z : Zone} {before after : List Zone}
    (order : visitOrder records = before ++ z :: after) (y : Zone) :
    y ∈ before ↔ records[y].enable = true ∧ Earlier records y z := by
  have ordered := visitOrder_ordered records
  rw [order, List.pairwise_append, List.pairwise_cons] at ordered
  obtain ⟨-, ⟨behind, -⟩, ahead⟩ := ordered
  rw [← mem_visitOrder, order]
  constructor
  · exact fun h => ⟨List.mem_append_left _ h, ahead y h z List.mem_cons_self⟩
  · rintro ⟨visited, earlier⟩
    rcases List.mem_append.mp visited with h | h
    · exact h
    · rcases List.mem_cons.mp h with rfl | h
      · exact absurd earlier (earlier.asymm records)
      · exact absurd earlier ((behind y h).asymm records)

theorem sum_of_members {before : List Zone} (once : before.Nodup) (f : Zone → Nat) {p : Zone → Bool}
    (member : ∀ y, y ∈ before ↔ p y = true) :
    (before.map f).sum = ((if p 0 then f 0 else 0) + (if p 1 then f 1 else 0))
      + ((if p 2 then f 2 else 0) + (if p 3 then f 3 else 0)) := by
  have zones : before.toFinset = Finset.univ.filter fun y => p y = true := by
    ext y
    simp only [List.mem_toFinset, member, Finset.mem_filter, Finset.mem_univ, true_and]
  rw [← List.sum_toFinset f once, zones, Finset.sum_filter, Fin.sum_univ_four, Nat.add_assoc]

theorem earlier_iff (records : Vector ZoneRecord 4) (y z : Zone) :
    (records[y].enable && (decide (records[y].priority < records[z].priority)
      || (decide (records[y].priority = records[z].priority) && decide (y < z)))) = true
      ↔ records[y].enable = true ∧ Earlier records y z := by
  simp only [Earlier, Bool.and_eq_true, Bool.or_eq_true, decide_eq_true_eq]

theorem allocate_within {b : Nat} {order : List Zone} {a i : Zone → Nat} (fits : demand a i ≤ 64 * b) :
    allocate b order a i = (a, false) := if_pos fits

/-- The requests scaled to 64 times the budget, and what they leave over (R34, R35). -/
def scaledRequests (b : Nat) (a i : Zone → Nat) : (Zone → Nat) × Nat :=
  (fun z => a z * (64 * b) / demand a i, 64 * b - demand (fun z => a z * (64 * b) / demand a i) i)

theorem allocate_beyond {b : Nat} {order : List Zone} {a i : Zone → Nat} (exceeds : 64 * b < demand a i) :
    allocate b order a i = ((order.foldl (leftoverVisit a i) (scaledRequests b a i)).1, true) :=
  if_neg (Nat.not_le.mpr exceeds)

/-! ### A control period start, zone by zone (R30 to R37) -/

/-- The request of R31 is the ceiling of 64 times the deficit over the band. -/
theorem requestOf_ceiling {working temp : Int} {band : Nat} (below : temp < working) (inside : working - temp < band) :
    (band : Int) * ((requestOf working temp band : Int) - 1) < 64 * (working - temp)
      ∧ 64 * (working - temp) ≤ (band : Int) * (requestOf working temp band : Int) := by
  obtain ⟨e, deficit⟩ := Int.eq_ofNat_of_zero_le (show 0 ≤ working - temp by omega)
  have value : requestOf working temp band = (64 * e + band - 1) / band := by
    simp only [requestOf]
    rw [if_neg (by omega), if_neg (by omega), deficit]
    rfl
  have whole := Nat.div_add_mod (64 * e + band - 1) band
  have rest := Nat.mod_lt (64 * e + band - 1) (show band > 0 by omega)
  rw [value, deficit]
  generalize hq : (64 * e + band - 1) / band = q at *
  generalize hn : band * q = n at *
  have product : (band : Int) * (q : Int) = n := by rw [← hn]; push_cast; rfl
  rw [mul_sub, product]
  omega

theorem requestOf_warm {working temp : Int} {band : Nat} (warm : working ≤ temp) : requestOf working temp band = 0 :=
  if_pos (show working - temp ≤ 0 by omega)

theorem requestOf_cold {working temp : Int} {band : Nat} (below : temp < working) (cold : (band : Int) ≤ working - temp) :
    requestOf working temp band = 64 :=
  (if_neg (show ¬ working - temp ≤ 0 by omega)).trans (if_pos cold)

theorem workingSetpoint_eq (r : ZoneRecord) (host : HostState) (suppress : Bool) :
    workingSetpoint r host suppress =
      if r.enable = false ∨ (host.keepWarm = true ∧ (r.keepWarm = false ∨ suppress = true)) then none
      else some (if host.keepWarm then r.keepWarmSetpoint else r.setpoint) := by
  unfold workingSetpoint
  cases r.enable with
  | false => rfl
  | true =>
    cases host.keepWarm with
    | false => rfl
    | true => cases r.keepWarm <;> cases suppress <;> rfl

theorem hostKeepWarm_eq (h : HostState) : h.keepWarm = (h = .standby || h = .powerCycle || h = .lockout) := by
  cases h <;> rfl

theorem stageRequest_kept (r : ZoneRecord) (w : Int) (reading : ReadingState × Option Int) (x : ZoneState) :
    (stageRequest r w reading x).working = x.working ∧ (stageRequest r w reading x).restCount = x.restCount
      ∧ (stageRequest r w reading x).onStreak = x.onStreak := by
  unfold stageRequest
  split
  · exact ⟨rfl, rfl, rfl⟩
  · split
    · split
      · exact ⟨rfl, rfl, rfl⟩
      · exact ⟨rfl, rfl, rfl⟩
    · exact ⟨rfl, rfl, rfl⟩
  · exact ⟨rfl, rfl, rfl⟩

section
variable (s : State) (z : Zone)

/-- The working setpoint of a zone (R30). -/
def workingOf : Option Int := workingSetpoint s.heat.records[z] s.hpc.host s.hpc.suppress

theorem stageOneToThree_kept :
    (stageOneToThree s z).working = workingOf s z ∧ (stageOneToThree s z).restCount = s.heat.zones[z].restCount
      ∧ (stageOneToThree s z).onStreak = s.heat.zones[z].onStreak
      ∧ (stageOneToThree s z).cut = decide (0 < s.heat.zones[z].cutDemand) := by
  cases works : workingOf s z with
  | none =>
    have works : workingSetpoint s.heat.records[z] s.hpc.host s.hpc.suppress = none := works
    simp only [stageOneToThree, works, and_self]
  | some w =>
    have works : workingSetpoint s.heat.records[z] s.hpc.host s.hpc.suppress = some w := works
    simp only [stageOneToThree, works, stageRequest_kept, and_self]

theorem stageOneToThree_idle (none_ : workingOf s z = none) :
    (stageOneToThree s z).request = 0 ∧ (stageOneToThree s z).held = s.heat.zones[z].held
      ∧ (stageOneToThree s z).holdCount = s.heat.zones[z].holdCount := by
  have none_ : workingSetpoint s.heat.records[z] s.hpc.host s.hpc.suppress = none := none_
  simp only [stageOneToThree, none_, and_self]

/-- Stage 2 of a zone with a working setpoint. -/
def stageTwo (w : Int) : ZoneState :=
  stageRequest s.heat.records[z] w (zoneReading s z) { s.heat.zones[z] with working := some w }

theorem stageOneToThree_works {w : Int} (works : workingOf s z = some w) :
    (stageOneToThree s z).request = (stageTwo s z w).request ∧ (stageOneToThree s z).held = (stageTwo s z w).held
      ∧ (stageOneToThree s z).holdCount = (stageTwo s z w).holdCount := by
  have works : workingSetpoint s.heat.records[z] s.hpc.host s.hpc.suppress = some w := works
  simp only [stageOneToThree, works, stageTwo, and_self]

end

section
variable {s : State} {z : Zone} {w : Int}

/-- The zone's channel carries a temperature that has been sampled (R27). -/
def Sampled (s : State) (z : Zone) : Prop :=
  (s.probe.table[s.heat.records[z].channel].valid && s.probe.table[s.heat.records[z].channel].kind = .temperature
    && s.probe.chans[s.heat.records[z].channel].last.isSome) = true

theorem zoneReading_current {v : Sample} (last : s.probe.chans[s.heat.records[z].channel].last = some v) (sampled : Sampled s z)
    (present : s.probe.chans[s.heat.records[z].channel].missing = false) : zoneReading s z = (.current, some v.value) := by
  obtain ⟨source, -⟩ := Bool.and_eq_true_iff.mp sampled
  simp only [zoneReading, channelReading, source, if_true, last, present, Bool.false_eq_true, if_false]

theorem zoneReading_held (sampled : Sampled s z) (missing : s.probe.chans[s.heat.records[z].channel].missing = true) :
    ∃ t, zoneReading s z = (.held, t) := by
  obtain ⟨source, some_⟩ := Bool.and_eq_true_iff.mp sampled
  obtain ⟨v, last⟩ := Option.isSome_iff_exists.mp some_
  exact ⟨some v.value, by simp only [zoneReading, channelReading, source, if_true, last, missing]⟩

theorem zoneReading_none (unsampled : ¬ Sampled s z) : zoneReading s z = (.none, none) := by
  unfold zoneReading channelReading
  dsimp only
  split
  · next source =>
    cases last : s.probe.chans[s.heat.records[z].channel].last with
    | none => rfl
    | some v => exact absurd (Bool.and_eq_true_iff.mpr ⟨source, by rw [last]; rfl⟩) unsampled
  · rfl

theorem stageTwo_current {t : Int} (reading : zoneReading s z = (.current, some t)) :
    stageTwo s z w = { s.heat.zones[z] with
      working := some w, request := requestOf w t s.heat.records[z].band
      held := some (requestOf w t s.heat.records[z].band), holdCount := 0 } := by
  simp only [stageTwo, reading, stageRequest]

theorem stageTwo_none (reading : zoneReading s z = (.none, none)) :
    stageTwo s z w = { s.heat.zones[z] with working := some w, request := s.heat.records[z].fallback } := by
  simp only [stageTwo, reading, stageRequest]

theorem stageTwo_held {t : Option Int} (reading : zoneReading s z = (.held, t)) {q : Nat} (held : s.heat.zones[z].held = some q)
    (within : s.heat.zones[z].holdCount < s.heat.records[z].holdPeriods) :
    stageTwo s z w = { s.heat.zones[z] with working := some w, request := q, holdCount := s.heat.zones[z].holdCount + 1 } := by
  simp only [stageTwo, reading, stageRequest, held, within, if_true]

theorem stageTwo_unheld {t : Option Int} (reading : zoneReading s z = (.held, t))
    (past : s.heat.zones[z].held = none ∨ s.heat.records[z].holdPeriods ≤ s.heat.zones[z].holdCount) :
    stageTwo s z w = { s.heat.zones[z] with working := some w, request := s.heat.records[z].fallback } := by
  cases held : s.heat.zones[z].held with
  | none => simp only [stageTwo, reading, stageRequest, held]
  | some q =>
    have past : ¬ s.heat.zones[z].holdCount < s.heat.records[z].holdPeriods :=
      Nat.not_lt.mpr (past.resolve_left fun none_ => absurd (held.symm.trans none_) nofun)
    simp only [stageTwo, reading, stageRequest, held, past, if_false]

theorem stageTwo_keepsHeld {t : Option Int} (reading : zoneReading s z = (.held, t)) :
    (stageTwo s z w).held = s.heat.zones[z].held := by
  simp only [stageTwo, reading, stageRequest]
  split
  · split <;> rfl
  · rfl

end

/-! ### The rest limit (R37) -/

section
variable (r : ZoneRecord) (g : Nat) (x : ZoneState)

/-- A rest of `n` periods has its limited grant, one period less to go, and ends the on-streak with its last (R37). -/
def Rests (n : Nat) : Prop :=
  (stageRest r g x).grant = min g r.restDuty ∧ (stageRest r g x).restCount = n - 1
    ∧ (stageRest r g x).onStreak = if n ≤ 1 then 0 else x.onStreak

theorem restCase_rests {n : Nat} (rests : stageRest r g x = restCase r n g x) : Rests r g x n := by
  unfold Rests
  rw [rests]
  refine ⟨rfl, rfl, if_congr ?_ rfl rfl⟩
  omega

theorem stageRest_resting (resting : 0 < x.restCount) : Rests r g x x.restCount :=
  restCase_rests r g x (if_pos resting)

section
variable (rested : x.restCount = 0)
include rested

theorem stageRest_begins (full : g = 64) (limited : r.maxOn ≠ 0) (streak : x.onStreak = r.maxOn) : Rests r g x r.restPeriods :=
  restCase_rests r g x ((if_neg (by omega)).trans ((if_pos full).trans (if_pos ⟨limited, streak⟩)))

theorem stageRest_full (full : g = 64) (free : r.maxOn = 0 ∨ x.onStreak ≠ r.maxOn) :
    stageRest r g x = { x with grant := g, onStreak := min (x.onStreak + 1) 255 } :=
  (if_neg (by omega)).trans ((if_pos full).trans (if_neg fun ⟨limited, streak⟩ => free.elim limited fun other => other streak))

theorem stageRest_part (part : g ≠ 64) : stageRest r g x = { x with grant := g, onStreak := 0 } :=
  (if_neg (by omega)).trans (if_neg part)

end

end

/-! ### The grant computations -/

/-- A control period start at moment `p + 8000` (R28, R29). -/
theorem exec_controlPeriodStart {s : State} (calm : Calm s) {p : Nat} (start : s.heat.periodStart = some p) :
    exec .controlPeriodStart s = .next (startTransmit (periodComputation
      { s with now := max s.now (p + 8000), heat := { s.heat with periodStart := some (p + 8000) } })) := by
  rw [exec, execControlPeriodStart, upon_calm calm]
  simp only [start]
  rfl

/-- The state in which the period that starts at `p` is computed (log 3). -/
def atPeriodStart (p : Nat) (s : State) : State := { s with now := max s.now p, heat := { s.heat with periodStart := some p } }

theorem periodZone_output (s : State) (z : Zone) :
    (periodZone s z).output = inWindow z (periodZone s z).grant (periodTime s) := rfl

theorem periodTime_atPeriodStart (p : Nat) (s : State) : periodTime (atPeriodStart p s) = min (s.now - p) 7999 := by
  have passed : max s.now p - p = s.now - p := by omega
  rw [periodTime_of (s := atPeriodStart p s) rfl]
  exact congrArg (min · 7999) passed

theorem periodZone_kept (s : State) (z : Zone) :
    (periodZone s z).working = workingOf s z ∧ (periodZone s z).request = (stageOneToThree s z).request
      ∧ (periodZone s z).held = (stageOneToThree s z).held ∧ (periodZone s z).holdCount = (stageOneToThree s z).holdCount
      ∧ ((periodZone s z).cut = true ↔ 0 < s.heat.zones[z].cutDemand) := by
  obtain ⟨working, -, -, cut⟩ := stageOneToThree_kept s z
  rw [periodZone, stageRest_eq]
  refine ⟨working, rfl, rfl, rfl, ?_⟩
  simp only [cut, decide_eq_true_eq]

theorem startTransmit_periodComputation_heat (s : State) :
    (startTransmit (periodComputation s)).heat
      = { s.heat with zones := quad (periodZone s), limited := (periodAllocation s).2 } := by
  rw [startTransmit_heat, periodComputation_heat]

/-- Settles O58: the leftover pass zone by zone (`leftover_visited`), each stage of a zone (`stageTwo`, `stageRest`), and the
immediate recomputation as a change of the zones. -/
theorem controlPeriodsAllocateTheBudget : Obligations.ControlPeriodsAllocateTheBudget := by
  unfold Obligations.ControlPeriodsAllocateTheBudget
  refine ⟨fun s b a i => ?_, fun s => ⟨fun calm none_ => ?_, fun p calm start => ?_⟩, fun s => ?_⟩
  · intro total scaled out step left earlier spent
    refine ⟨fun fits => ?_, fun exceeds => ?_⟩
    · have whole : out = (a, false) := allocate_within fits
      exact ⟨fun z => by rw [whole], by rw [whole]⟩
    · have pass : out = (((visitOrder s.heat.records).foldl (leftoverVisit a i) (scaledRequests b a i)).1, true) :=
        allocate_beyond exceeds
      have gains (z : Zone) (enabled : s.heat.records[z].enable = true) :
          out.1 z = if scaled z < a z ∧ i z + spent z ≤ left then scaled z + 1 else scaled z := by
        obtain ⟨before, after, order⟩ := List.append_of_mem ((mem_visitOrder s.heat.records z).mpr enabled)
        have once := visitOrder_nodup s.heat.records
        rw [order] at once
        have spentEq : (before.map fun y => (out.1 y - scaled y) * i y).sum = spent z :=
          sum_of_members (List.nodup_append.mp once).1 _ fun y => (mem_before _ order y).trans (earlier_iff _ y z).symm
        rw [← spentEq]
        exact leftover_visited before z after once (scaledRequests b a i) (by rw [pass, order])
      have idle (z : Zone) (disabled : ¬ s.heat.records[z].enable = true) : out.1 z = scaled z := by
        rw [pass]
        exact leftover_unvisited _ _ (mt (mem_visitOrder s.heat.records z).mp disabled)
      refine ⟨by rw [pass], fun z => ⟨fun ⟨enabled, gain⟩ => (gains z enabled).trans (if_pos gain), fun none_ => ?_⟩⟩
      by_cases enabled : s.heat.records[z].enable = true
      · exact (gains z enabled).trans (if_neg fun gain => none_ ⟨enabled, gain⟩)
      · exact idle z enabled
  · rw [exec, execControlPeriodStart, upon_calm calm]
    simp only [none_]
    rfl
  · let u := atPeriodStart (p + 8000) s
    let t := startTransmit (periodComputation u)
    have zones : t.heat.zones = quad (periodZone u) := by rw [startTransmit_periodComputation_heat]
    have zone (z : Zone) : t.heat.zones[z] = periodZone u z := by simp only [zones, quad_get]
    refine ⟨t, exec_controlPeriodStart calm start, ?_⟩
    intro a out w
    have asked : (fun z => allocationRequest (stageOneToThree u z)) = a := by
      funext z
      obtain ⟨request, cut⟩ := periodZone_request u z
      simp only [a, zone, request, cut, allocationRequest]
    have allocated : periodAllocation u = out := by
      simp only [periodAllocation, asked]
      rfl
    refine ⟨?_, fun z => ?_⟩
    · have whole : periodComputation u = if out.2 then countEvent .limitedPeriods w else w := by
        rw [periodComputation_eq, allocated, ← zones]
        rfl
      rw [← whole]
    · intro r x y e k saving working sampled g rests
      have here : y = periodZone u z := zone z
      obtain ⟨workingIs, requestIs, heldIs, countIs, cutIff⟩ := periodZone_kept u z
      have workingOfIs : workingOf u z = working := by
        refine (workingSetpoint_eq r s.hpc.host s.hpc.suppress).trans ?_
        have keepWarm : s.hpc.host.keepWarm = saving := hostKeepWarm_eq s.hpc.host
        rw [keepWarm]
      rw [← here] at workingIs requestIs heldIs countIs cutIff
      refine ⟨workingIs.trans workingOfIs, (congrArg ZoneState.cutDemand here).trans (periodZone_cutDemand u z), cutIff,
        fun none_ => ?_, fun w' works => ?_, ?_⟩
      · obtain ⟨request, held, count⟩ := stageOneToThree_idle u z (workingOfIs.trans none_)
        exact ⟨requestIs.trans request, heldIs.trans held, countIs.trans count⟩
      · obtain ⟨request, held, count⟩ := stageOneToThree_works u z (workingOfIs.trans works)
        have requestIs := requestIs.trans request
        have heldIs := heldIs.trans held
        have countIs := countIs.trans count
        refine ⟨fun v last ⟨sampledNow, present⟩ => ?_, fun ⟨sampledNow, missing⟩ => ?_, fun unsampled => ?_⟩
        · rw [stageTwo_current (zoneReading_current (s := u) last sampledNow present)] at requestIs heldIs countIs
          refine ⟨heldIs.trans (congrArg some requestIs.symm), countIs, requestIs ▸ requestOf_le .., fun warm => ?_,
            fun below inside => ?_, fun below cold => ?_⟩
          · exact requestIs.trans (requestOf_warm warm)
          · rw [requestIs]
            exact requestOf_ceiling below inside
          · exact requestIs.trans (requestOf_cold below cold)
        · obtain ⟨reading, readingIs⟩ := zoneReading_held (s := u) sampledNow missing
          refine ⟨heldIs.trans (stageTwo_keepsHeld readingIs), fun q heldBefore within => ?_, fun past => ?_⟩
          · rw [stageTwo_held (s := u) readingIs heldBefore within] at requestIs countIs
            exact ⟨requestIs, countIs⟩
          · rw [stageTwo_unheld (s := u) readingIs past] at requestIs countIs
            exact ⟨requestIs, countIs⟩
        · rw [stageTwo_none (zoneReading_none (s := u) (Bool.eq_false_iff.mp unsampled))] at requestIs heldIs countIs
          exact ⟨requestIs, heldIs, countIs⟩
      · obtain ⟨-, restIs, streakIs, -⟩ := stageOneToThree_kept u z
        have grantIs : y.grant = (stageRest r g (stageOneToThree u z)).grant := by
          rw [here, periodZone, allocated]
          rfl
        have restCountIs : y.restCount = (stageRest r g (stageOneToThree u z)).restCount := by
          rw [here, periodZone, allocated]
          rfl
        have onStreakIs : y.onStreak = (stageRest r g (stageOneToThree u z)).onStreak := by
          rw [here, periodZone, allocated]
          rfl
        have resting {n : Nat} (h : Rests r g (stageOneToThree u z) n) : rests n := by
          obtain ⟨grant, rest, streak⟩ := h
          exact ⟨grantIs.trans grant, restCountIs.trans rest, onStreakIs.trans (streak.trans (by rw [streakIs]; rfl))⟩
        refine ⟨fun rest => ?_, fun rested full limited streak => resting ?_, fun rested full free => ?_,
          fun rested part => ?_, ?_⟩
        · exact resting (restIs ▸ stageRest_resting r g _ (restIs.symm ▸ rest))
        · exact stageRest_begins r g _ (restIs.trans rested) full limited (streakIs.trans streak)
        · rw [stageRest_full r g _ (restIs.trans rested) full (by rw [streakIs]; exact free)] at grantIs restCountIs onStreakIs
          exact ⟨grantIs, restCountIs.trans (restIs.trans rested), onStreakIs.trans (by rw [streakIs]; rfl)⟩
        · rw [stageRest_part r g _ (restIs.trans rested) part] at grantIs restCountIs onStreakIs
          exact ⟨grantIs, restCountIs.trans (restIs.trans rested), onStreakIs⟩
        · rw [here, ← periodTime_atPeriodStart]
          exact periodZone_output u z
  · intro cut out zone
    exact congrArg (fun h => { s with heat := h }) (immediateRecompute_heat s)

end Sys2Proof.Machine
end

section
/-! SUPPORT. STATUS_READ (O52): its parts, and the bytes of the thirteen records. -/

namespace Sys2Proof.Machine
open Sys2Proof

/-! ### Parts (R167) -/

theorem partCount_eq (r : List Byte) : partCount r = max 1 ((r.length + 45) / 46) := rfl

theorem partOf_length (r : List Byte) (k : Nat) : (partOf r k).length ≤ 46 := List.length_take_le ..

theorem firstParts (r : List Byte) (n : Nat) : (List.range n).flatMap (partOf r) = r.take (46 * n) := by
  induction n with
  | zero => rfl
  | succ n ih =>
    rw [List.range_succ, List.flatMap_append, ih, List.flatMap_singleton, Nat.mul_succ, List.take_add]
    rfl

theorem allParts (r : List Byte) : (List.range (partCount r)).flatMap (partOf r) = r := by
  rw [firstParts, List.take_of_length_le]
  rw [partCount_eq]
  omega

section
variable {s : State} {c : Instr} {tag : Tag} {part : Byte} {record : State → Option (List Byte)} (ready : Ready s)
  (hexec : exec c s = upon s (supervisorOp tag 0x50 (readStatus part record)))
include ready hexec

theorem statusRead_some {r : List Byte} (here : record s = some r) :
    (part.toNat < max 1 ((r.length + 45) / 46) →
      exec c s = .next (replied tag .done
        (part :: byte1 (max 1 ((r.length + 45) / 46)) ++ (r.drop (46 * part.toNat)).take 46) s))
    ∧ (max 1 ((r.length + 45) / 46) ≤ part.toNat → exec c s = .next (repliedBad tag 0x50 s)) := by
  refine ⟨fun inside => exec_replied ready hexec ?_ ready.delivers (by decide), fun beyond => exec_repliedBad ready hexec ?_⟩
  · rw [readStatus, here]
    exact congrArg (Prod.mk s) (if_pos inside)
  · rw [readStatus, here]
    exact congrArg (Prod.mk s) (if_neg (Nat.not_lt.mpr beyond))

theorem statusRead_none (none_ : record s = none) : exec c s = .next (repliedBad tag 0x50 s) := by
  refine exec_repliedBad ready hexec ?_
  rw [readStatus, none_]

end

theorem smallByte {n m : Nat} (h : n < m) (small : m ≤ 256) : (BitVec.ofNat 8 n).toNat = n := by
  rw [BitVec.toNat_ofNat]
  omega

theorem logRecord_at (k : Fin 8) (s : State) :
    logRecord (BitVec.ofNat 8 k.val) s = some ((s.hpc.log.reverse[k.val]?.map logBytes).getD []) := by
  have index := smallByte k.isLt (by decide)
  rw [logRecord, index, if_neg (by omega)]
  cases s.hpc.log.reverse[k.val]? <;> rfl

/-- The record a byte argument below `n` picks. -/
theorem picked {n : Nat} {f : Fin n → List Byte} (small : n ≤ 256) (k : Fin n) :
    (if h : (BitVec.ofNat 8 k.val).toNat < n then some (f ⟨(BitVec.ofNat 8 k.val).toNat, h⟩) else none) = some (f k) := by
  have value := smallByte k.isLt small
  rw [dif_pos (by rw [value]; exact k.isLt)]
  exact congrArg (fun i => some (f i)) (Fin.ext value)

/-- How a part of a record is answered. -/
def AnswersParts (s : State) (tag : Tag) (part : Byte) (c : Instr) (r : List Byte) : Prop :=
  (part.toNat < max 1 ((r.length + 45) / 46) →
    exec c s = .next (replied tag .done
      (part :: byte1 (max 1 ((r.length + 45) / 46)) ++ (r.drop (46 * part.toNat)).take 46) s))
  ∧ (max 1 ((r.length + 45) / 46) ≤ part.toNat → exec c s = .next (repliedBad tag 0x50 s))

section
variable {s : State} {tag : Tag} {part : Byte} (ready : Ready s)
include ready

theorem probeRead (c : Channel) : AnswersParts s tag part (.statusReadProbe tag part (BitVec.ofNat 8 c.val)) (probeRecord c s) :=
  statusRead_some (record := fun s => if h : (BitVec.ofNat 8 c.val).toNat < 16 then some (probeRecord ⟨_, h⟩ s) else none)
    ready rfl (picked (f := fun c => probeRecord c s) (by decide) c)

theorem actionsRead (n : Fin 8) : AnswersParts s tag part (.statusReadActions tag part (BitVec.ofNat 8 n.val)) (actionsRecord n s) :=
  statusRead_some (record := fun s => if h : (BitVec.ofNat 8 n.val).toNat < 8 then some (actionsRecord ⟨_, h⟩ s) else none)
    ready rfl (picked (f := fun n => actionsRecord n s) (by decide) n)

theorem keymapRead (l : Fin 4) (p : Position) :
    AnswersParts s tag part (.statusReadKeymap tag part (BitVec.ofNat 8 l.val) (BitVec.ofNat 8 p.val)) (keymapRecord l p s) := by
  have layer := smallByte l.isLt (by decide)
  have position := smallByte p.isLt (by decide)
  refine statusRead_some (record := fun s =>
    if h : (BitVec.ofNat 8 l.val).toNat < 4 ∧ (BitVec.ofNat 8 p.val).toNat < 64 then
      some (keymapRecord ⟨_, h.1⟩ ⟨_, h.2⟩ s) else none) ready rfl ?_
  have inside : (BitVec.ofNat 8 l.val).toNat < 4 ∧ (BitVec.ofNat 8 p.val).toNat < 64 := by
    rw [layer, position]
    exact ⟨l.isLt, p.isLt⟩
  exact (dif_pos inside).trans (congrArg₂ (fun l p => some (keymapRecord l p s)) (Fin.ext layer) (Fin.ext position))

theorem logRead (k : Fin 8) : AnswersParts s tag part (.statusReadLog tag part (BitVec.ofNat 8 k.val))
    ((s.hpc.log.reverse[k.val]?.map logBytes).getD []) :=
  statusRead_some (record := logRecord (BitVec.ofNat 8 k.val)) ready rfl (logRecord_at k s)

/-- An argument out of range is refused (R167). -/
theorem argumentsOutOfRange (a b : Byte) :
    (16 ≤ a.toNat → exec (.statusReadProbe tag part a) s = .next (repliedBad tag 0x50 s))
    ∧ (8 ≤ a.toNat → exec (.statusReadActions tag part a) s = .next (repliedBad tag 0x50 s)
      ∧ exec (.statusReadLog tag part a) s = .next (repliedBad tag 0x50 s))
    ∧ (4 ≤ a.toNat ∨ 64 ≤ b.toNat → exec (.statusReadKeymap tag part a b) s = .next (repliedBad tag 0x50 s)) := by
  refine ⟨fun high => ?_, fun high => ⟨?_, ?_⟩, fun high => ?_⟩
  · exact statusRead_none (record := fun s => if h : a.toNat < 16 then some (probeRecord ⟨_, h⟩ s) else none) ready rfl
      (dif_neg (Nat.not_lt.mpr high))
  · exact statusRead_none (record := fun s => if h : a.toNat < 8 then some (actionsRecord ⟨_, h⟩ s) else none) ready rfl
      (dif_neg (Nat.not_lt.mpr high))
  · exact statusRead_none (record := logRecord a) ready rfl (if_pos high)
  · exact statusRead_none (record := fun s =>
      if h : a.toNat < 4 ∧ b.toNat < 64 then some (keymapRecord ⟨_, h.1⟩ ⟨_, h.2⟩ s) else none) ready rfl
      (dif_neg (by omega))

end

/-! ### Fields of a record (R159) -/

/-- A value in four bytes. -/
def fourBytes (n : Nat) : List Byte :=
  [BitVec.ofNat 8 (n / 16777216), BitVec.ofNat 8 (n / 65536), BitVec.ofNat 8 (n / 256), BitVec.ofNat 8 n]

theorem byte4_eq (n : Nat) : byte4 n = fourBytes n := by
  have high : n / 65536 / 256 = n / 16777216 := by omega
  have low : BitVec.ofNat 8 (n % 65536 / 256) = BitVec.ofNat 8 (n / 256) := BitVec.eq_of_toNat_eq (by
    rw [BitVec.toNat_ofNat, BitVec.toNat_ofNat]
    omega)
  have least : BitVec.ofNat 8 (n % 65536) = BitVec.ofNat 8 n := BitVec.eq_of_toNat_eq (by
    rw [BitVec.toNat_ofNat, BitVec.toNat_ofNat]
    omega)
  simp only [byte4, byte2, high, low, least, List.cons_append, List.nil_append, fourBytes]

theorem boolByte_eq (b : Bool) : boolByte b = if b then [1] else [0] := by cases b <;> rfl

/-- A field that may be absent, its bytes given. -/
def mayBytes (n : Nat) (field : Option (List Byte)) : List Byte :=
  match field with
  | some b => 1 :: b
  | none => List.replicate (n + 1) 0

theorem optBytes_eq {α : Type} (n : Nat) (f : α → List Byte) (o : Option α) : optBytes n f o = mayBytes n (o.map f) := by
  cases o <;> rfl

theorem optBytes_map {α β : Type} (n : Nat) (f : β → List Byte) (g : α → β) (o : Option α) :
    optBytes n f (o.map g) = mayBytes n (o.map fun x => f (g x)) := by
  cases o <;> rfl

/-! ### The records' bytes -/

theorem startKind_byte (k : StartKind) :
    byte1 k.code = match k with
      | .none => [0]
      | .normal => [1]
      | .forced => [2] := by cases k <;> rfl

theorem restartKind_byte (k : RestartKind) :
    byte1 k.code = match k with
      | .soft => [0]
      | .hard => [1] := by cases k <;> rfl

theorem restartCause_byte (c : RestartCause) :
    byte1 c.code = match c with
      | .watchdogExpiry => [0]
      | .bootTimeout => [1]
      | .railFault => [2]
      | .serviceRequest => [3]
      | .hostRequest => [4] := by cases c <;> rfl

theorem restartAction_byte (a : RestartAction) :
    byte1 a.code = match a with
      | .soft => [0]
      | .hard => [1]
      | .lockout => [2] := by cases a <;> rfl

theorem pollState_byte (p : PollState) :
    byte1 p.code = match p with
      | .off => [0]
      | .waiting => [1]
      | .queued => [2]
      | .inFlight => [3]
      | .inFlightDue => [4] := by cases p <;> rfl

theorem padState_byte (p : PadState) :
    byte1 p.code = [match p with
      | .open => 0
      | .closing => 1
      | .closed => 2
      | .masked => 3
      | .opening => 4
      | .stuck => 5] := by cases p <;> rfl

theorem compare_byte (c : Compare) :
    byte1 (codeOf compares c) = match c with
      | .above => [0]
      | .below => [1] := by cases c <;> rfl

theorem stale_byte (p : StalePolicy) :
    byte1 (codeOf stalePolicies p) = match p with
      | .hold => [0]
      | .trip => [1] := by cases p <;> rfl

theorem guardOps_byte (read write : Bool) :
    flagsByte [read, write] = byte1 ((if read then 1 else 0) + (if write then 2 else 0)) := by
  cases read <;> cases write <;> rfl

theorem currentLayer_val (k : Keymap) :
    k.currentLayer.val = match k.stack with
      | top :: _ => top.layer.val
      | [] => 0 := by
  unfold Keymap.currentLayer
  cases k.stack <;> rfl

theorem twoCounters (v : Vector Counter 2) : v.toList = [v[0], v[1]] := by
  have whole : v = #v[v[0], v[1]] := by
    ext k hk
    interval_cases k <;> rfl
  rw [whole]
  rfl

theorem eightWindows (v : Vector WindowEntry 8) : v.toList = [v[0], v[1], v[2], v[3], v[4], v[5], v[6], v[7]] := by
  have whole : v = #v[v[0], v[1], v[2], v[3], v[4], v[5], v[6], v[7]] := by
    ext k hk
    interval_cases k <;> rfl
  rw [whole]
  rfl

theorem zoneReading_bytes (s : State) (z : Zone) :
    let e := s.probe.table[s.heat.records[z].channel]
    let c := s.probe.chans[s.heat.records[z].channel]
    let value : Option Sample := if e.valid = true ∧ e.kind = .temperature then c.last else none
    byte1 (zoneReading s z).1.code = (if value.isSome then (if c.missing then [1] else [0]) else [2])
      ∧ (zoneReading s z).2 = value.map Sample.value := by
  intro e c value
  by_cases source : e.valid = true ∧ e.kind = .temperature
  · have valueIs : value = c.last := if_pos source
    have reading : zoneReading s z = match c.last with
        | some v => (if c.missing then .held else .current, some v.value)
        | none => (.none, none) := if_pos (by rw [Bool.and_eq_true, decide_eq_true_eq]; exact source)
    rw [valueIs, reading]
    cases c.last with
    | none => exact ⟨rfl, rfl⟩
    | some v => cases c.missing <;> exact ⟨rfl, rfl⟩
  · have valueIs : value = none := if_neg source
    have reading : zoneReading s z = (.none, none) := if_neg (by rw [Bool.and_eq_true, decide_eq_true_eq]; exact source)
    rw [valueIs, reading]
    exact ⟨rfl, rfl⟩

/-- Settles O52: every read is a `readStatus` of its record, parts are the record cut at 46 bytes (`firstParts`), and each record's
fields have the bytes of R159, field by field. -/
theorem statusReadsAnswerParts : Obligations.StatusReadsAnswerParts := by
  unfold Obligations.StatusReadsAnswerParts
  refine ⟨fun s tag part ready => ?_, fun r _ => ⟨allParts r, partOf_length r⟩, fun f o => wordOf_getLsbD f o, fun s => ?_⟩
  · exact ⟨statusRead_some (record := fun s => some (hostRecord s)) ready rfl rfl,
      statusRead_some (record := fun s => some (heatRecord s)) ready rfl rfl,
      statusRead_some (record := fun s => some (conditionsRecord s)) ready rfl rfl,
      statusRead_some (record := fun s => some (keypadRecord s)) ready rfl rfl,
      statusRead_some (record := fun s => some (relayRecord s)) ready rfl rfl,
      statusRead_some (record := fun s => some (outputsRecord s)) ready rfl rfl,
      statusRead_some (record := fun s => some (errorsRecord s)) ready rfl rfl,
      statusRead_some (record := fun s => some (countersRecord s)) ready rfl rfl,
      statusRead_some (record := fun s => some (linkRecord s)) ready rfl rfl,
      probeRead ready, actionsRead ready, keymapRead ready, logRead ready, argumentsOutOfRange ready⟩
  · intro b1 b2 b4 i2 i4 w2 flag absent may host layer left timer
    have four : byte4 = b4 := funext byte4_eq
    have bool : boolByte = flag := funext boolByte_eq
    have int : int4 = i4 := funext fun v => byte4_eq _
    have opt {α : Type} (n : Nat) (f : α → List Byte) (o : Option α) : optBytes n f o = may n (o.map f) := optBytes_eq n f o
    refine ⟨?_, ?_, ?_, ?_, ?_, ?_, ?_, ?_, ?_, ?_, ?_, ?_, ?_⟩
    · simp only [hostRecord, startBytes, listBytes, four, opt, startKind_byte, restartKind_byte, Option.map_map, List.append_assoc]
      rfl
    · intro r before
      simp only [logBytes, four, opt, restartCause_byte, restartAction_byte]
      rfl
    · intro zone budget time
      have zoneIs (z : Zone) : heatZoneBytes s z = zone z := by
        obtain ⟨state, value⟩ := zoneReading_bytes s z
        have off : byte1 (if s.heat.zones[z].output then 0 else 1) = flag (!s.heat.zones[z].output) := by
          cases s.heat.zones[z].output <;> rfl
        simp only [heatZoneBytes, state, value, off, bool, opt, Option.map_map]
        rfl
      have budgetIs : budgetInForce s = budget := rfl
      have timeIs : periodTime s / 8 = time := by
        unfold periodTime time
        cases s.heat.periodStart with
        | none => exact Nat.zero_div 8
        | some p => rfl
      simp only [heatRecord, listBytes, bool, budgetIs, timeIs, allZones, List.flatMap_cons, List.flatMap_nil, zoneIs,
        List.append_nil, ← List.append_assoc]
      rfl
    · intro c x
      simp only [probeRecord, four, bool, opt, pollState_byte, Option.map_map, pollQueue, List.length_insertionSort]
      rfl
    · rfl
    · intro n rule way
      have wayIs (w : Fin 4) : wayBytes s n w = way w := by
        have split : way w = flag (decide (w < s.acts.lock)) ++ rule (slotOf n w) := rfl
        rw [split, wayBytes, bool]
        refine congrArg (flag (decide (w < s.acts.lock)) ++ ·) ?_
        unfold rule
        cases s.acts.entries[slotOf n w] with
        | none => rfl
        | some e =>
          cases e with
          | sample r =>
            simp only [actionFieldBytes, compare_byte, stale_byte, bool, int, ← List.append_assoc]
            rfl
          | guard g =>
            simp only [actionFieldBytes, guardOps_byte, ← List.append_assoc]
            rfl
      simp only [actionsRecord, bool, List.flatMap_cons, List.flatMap_nil, wayIs, List.append_nil, ← List.append_assoc]
      rfl
    · intro code
      have closed (p : Position) : inClosedSet s p = decide (2 ≤ (code p).toNat) := by
        show s.pad.positions[p].state.inClosedSet = _
        unfold code
        cases s.pad.positions[p].state <;> rfl
      have set : allPositions.filter (inClosedSet s) = (List.finRange 64).filter fun p => decide (2 ≤ (code p).toNat) :=
        congrArg (List.filter · _) (funext closed)
      have codes : allPositions.flatMap (fun p => byte1 s.pad.positions[p].state.code) = (List.finRange 64).map code := by
        simp only [padState_byte]
        exact List.flatMap_pure_eq_map ..
      simp only [keypadRecord, closedSetSize, set, listBytes, codes, bool, opt, ← List.append_assoc]
      rfl
    · intro l p entry x kind pushed
      have layerIs : s.keymap.currentLayer.val = layer := currentLayer_val s.keymap
      have entryIs : keyEntryBytes s.keymap.entries[keySlot l p] = entry := by
        unfold entry keySlot keyEntryBytes
        cases s.keymap.entries[(⟨l.val * 64 + p.val, by omega⟩ : KeySlot)] with
        | none | transparent | plain | layer | clearOne | clearAll => rfl
        | service f c => cases f <;> rfl
      have kindIs (k : KeyKind) : byte1 (codeOf keyKinds k) = kind k := by cases k <;> rfl
      have pushedIs : stackEntryBytes = pushed := funext fun e => by
        simp only [stackEntryBytes, bool]
        rfl
      simp only [keymapRecord, entryIs, keyPositionBytes, layerIs, listBytes, pushedIs, List.length_reverse, kindIs, bool, opt,
        ← List.append_assoc]
      rfl
    · intro held window carried windows
      have windowIs : windowEntryBytes = window := funext fun e => by
        have access : byte1 (codeOf accesses e.access) = match e.access with
            | .readOnly => [0]
            | .writeOnly => [1]
            | .readWrite => [2] := by cases e.access <;> rfl
        simp only [windowEntryBytes, bool, access]
        rfl
      have heldIs (flying : Bool) : relayEntryBytes flying = held flying := funext fun e => by
        obtain ⟨tag, op, address, window, module, register, length, data⟩ := e
        cases op with
        | read =>
          simp only [relayEntryBytes, bool]
          rfl
        | write =>
          simp only [relayEntryBytes, bool, reduceCtorEq, if_false, optBytes, listBytes, List.flatMap_singleton',
            ← List.append_assoc]
          rfl
      have flying : decide (linkCode s.relay.link = 1) = carried := by
        unfold linkCode carried
        cases s.relay.link with
        | none => rfl
        | some k => cases use : k.use <;> simp only [Option.any_some, use] <;> rfl
      have linkIs : byte1 (linkCode s.relay.link) = match s.relay.link.map Link.use with
          | none => [0]
          | some .relay => [1]
          | some (.poll _ _) => [2]
          | some .orphan => [3] := by
        unfold linkCode
        cases s.relay.link with
        | none => rfl
        | some k => cases use : k.use <;> simp only [Option.map_some, use] <;> rfl
      have servedIs : byte1 s.relay.lastServed.code = match s.relay.lastServed with
          | .relay => [0]
          | .poll => [1] := by cases s.relay.lastServed <;> rfl
      simp only [relayRecord, relayEntriesBytes, linkIs, servedIs, windowIs, heldIs, flying, listBytes,
        eightWindows s.relay.windows, List.flatMap_cons, List.flatMap_nil, List.append_nil, ← List.append_assoc]
      rfl
    · have layerIs : s.keymap.currentLayer.val = layer := currentLayer_val s.keymap
      simp only [outputsRecord, bool, layerIs]
      rfl
    · simp only [errorsRecord, bool]
      cases s.errs.detail with
      | none => rfl
      | some d =>
        simp only [optBytes_eq 14, Option.map_some, detailBytes, four, opt]
        rfl
    · simp only [countersRecord, twoCounters s.counters, List.flatMap_cons, List.flatMap_nil, four, List.append_nil,
        ← List.append_assoc]
      rfl
    · intro rate claimed
      have rateIs (v : Speed) : byte4 v.bitRate = rate v := by cases v <;> exact byte4_eq _
      have state : byte1 s.imageState.code = match s.imageState with
          | .valid => [0]
          | .factory => [1]
          | .storing _ _ _ => [2] := by cases s.imageState <;> rfl
      have stored : byte4 s.store.speed.bitRate = match s.store with
          | .image i => rate i.speed
          | _ => b4 115200 := by
        cases s.store with
        | image i => exact rateIs i.speed
        | empty | damaged => exact byte4_eq _
      have claims : occupied s + 1 = s.panel.replies.length + s.relay.queue.length + claimed + 1 := by
        have claim : (if (storeClaim s).isSome then 1 else 0) = claimed := by
          unfold storeClaim claimed
          cases s.imageState with
          | valid | factory => rfl
          | storing _ claim _ => cases claim <;> rfl
        rw [occupied, claimedUnfilled, claim, ← Nat.add_assoc]
      simp only [linkRecord, state, stored, claims, rateIs]
      rfl

end Sys2Proof.Machine
end

section
/-! SUPPORT. The Image Store, power, and the end of the image load (O50). -/

namespace Sys2Proof.Machine
open Sys2Proof

/-! ### Only the host state and the allocator change on the way into RAILS -/

/-- Between the two states only the Host Power Controller and the zones' runtime state differ. -/
def HostOnly (s t : State) : Prop := ∃ h k, t = { s with hpc := h, heat := k } ∧ k.records = s.heat.records

theorem HostOnly.refl (s : State) : HostOnly s s := ⟨s.hpc, s.heat, rfl, rfl⟩

theorem HostOnly.trans {s t u : State} (first : HostOnly s t) (second : HostOnly t u) : HostOnly s u := by
  obtain ⟨_, _, rfl, records⟩ := first
  obtain ⟨h, k, rfl, kept⟩ := second
  exact ⟨h, k, rfl, kept.trans records⟩

theorem hostOnly_hpc (s : State) (h : Hpc) : HostOnly s { s with hpc := h } := ⟨h, s.heat, rfl, rfl⟩

theorem hostOnly_moved (new : HostState) (s : State) (h : Hpc) : HostOnly s { s with hpc := h, heat := budgeted new s } :=
  ⟨h, budgeted new s, rfl, by rw [budgeted_eq]⟩

theorem beginRailStep_hostOnly (k : Rail) (s : State) : HostOnly s (beginRailStep k s) := by
  unfold beginRailStep
  dsimp only
  split
  · exact hostOnly_hpc ..
  · exact hostOnly_hpc ..

section
variable {s : State}

theorem enterRails_hostOnly (kind : StartKind) (host : s.hpc.host = .preheat ∨ s.hpc.host = .soak) :
    HostOnly s (enterRails kind s) := by
  have moved : moveHost .rails { s with hpc := startedHpc kind s } =
      { s with hpc := { startedHpc kind s with host := .rails }, heat := budgeted .rails s } :=
    moveHost_mild_hpc (by obtain h | h := host <;> rw [h] <;> decide) rfl rfl
  have inRails : HostOnly s (moveHost .rails { s with hpc := startedHpc kind s }) := by
    rw [moved]
    exact hostOnly_moved ..
  unfold enterRails
  dsimp only
  split
  · exact inRails.trans (beginRailStep_hostOnly ..)
  · exact inRails

theorem enterSoak_hostOnly (host : s.hpc.host = .preheat) : HostOnly s (enterSoak s) := by
  rw [enterSoak_eq host]
  split
  · exact (hostOnly_hpc ..).trans (enterRails_hostOnly .normal (.inr rfl))
  · exact hostOnly_hpc ..

theorem evaluateGate_hostOnly (host : s.hpc.host = .preheat) : HostOnly s (evaluateGate s) := by
  rw [evaluateGate_preheat host]
  split
  · exact enterSoak_hostOnly host
  · exact .refl s

theorem enterPreheat_hostOnly (host : s.hpc.host = .standby) : HostOnly s (enterPreheat s) := by
  rw [enterPreheat_shape (by rw [host]; rfl)]
  exact (hostOnly_moved ..).trans (evaluateGate_hostOnly rfl)

theorem settleHost_hostOnly (host : s.hpc.host = .standby) : HostOnly s (settleHost s) := by
  unfold settleHost
  split
  · exact enterPreheat_hostOnly host
  · exact .refl s

end

/-! ### The end of the image load (R2, R28, R60, R114, R126, R143, R170) -/

/-- Every valid channel has just been queued: the first of them is the poll head. -/
theorem queueChannels_get (s : State) (c : Channel) :
    (queueChannels s).probe.chans[c] = if s.probe.table[c].valid then
      { ChannelState.initial with poll := .queued, due := some s.now, joined := some s.now } else ChannelState.initial := by
  simp [queueChannels]

section
variable {s : State}

theorem queueChannels_isQueued (c : Channel) : isQueued (queueChannels s) c = s.probe.table[c].valid := by
  rw [isQueued, queueChannels_get]
  cases s.probe.table[c].valid <;> rfl

theorem queueChannels_due {c : Channel} (valid : s.probe.table[c].valid = true) :
    (queueChannels s).probe.chans[c].due = some s.now := by
  rw [queueChannels_get, if_pos valid]

theorem queueChannels_head {c : Channel} (valid : s.probe.table[c].valid = true)
    (first : ∀ d < c, s.probe.table[d].valid = false) : pollHead (queueChannels s) = some c := by
  refine (pollHead_iff _ c).mpr ⟨(queueChannels_isQueued c).trans valid, fun d queued => ?_⟩
  rw [queueChannels_isQueued] at queued
  rw [queuedBefore_iff, queueChannels_due valid, queueChannels_due queued]
  refine .inr ⟨rfl, Nat.not_lt.mp fun lower => ?_⟩
  exact absurd queued (by rw [first d lower]; decide)

theorem queueChannels_nobody (none_ : ∀ c : Channel, s.probe.table[c].valid = false) : pollHead (queueChannels s) = none :=
  pollHead_none fun c => (queueChannels_isQueued c).trans (none_ c)

end

/-- The state at the end of the load, before the channels are queued. -/
def loadEnded (s : State) : State :=
  let s1 := recomputeDebounce (settleHost { s with power := .running })
  let s2 := beginScan s1.now (startPeriod s1.now s1)
  { s2 with keymap.nextTick := some (s2.now + Config.layerTick) }

theorem completeLoad_eq (s : State) : completeLoad s = arbitrate (queueChannels (loadEnded s)) := rfl

theorem startPeriod_shape (p : Nat) (s : State) :
    ∃ k c, startPeriod p s = { s with heat := k, counters := c } ∧ k.periodStart = some p := by
  rw [startPeriod, periodComputation_eq]
  dsimp only
  split
  · exact ⟨_, _, rfl, rfl⟩
  · exact ⟨_, s.counters, rfl, rfl⟩

theorem temperatureBasis_of {s t : State} (pad : t.pad = s.pad) (records : t.heat.records = s.heat.records)
    (probe : t.probe = s.probe) : temperatureBasis t = temperatureBasis s := by
  simp only [temperatureBasis, zoneReading, pad, records, probe]

/-- What the end of the load changes before the channels are queued. -/
theorem loadEnded_shape {s : State} (host : s.hpc.host = .standby) :
    ∃ k c, loadEnded s = { s with
        power := .running, hpc := (settleHost { s with power := .running }).hpc, heat := k, counters := c
        pad := { s.pad with
          basis := temperatureBasis s, count := debounceCount s.pad.record (temperatureBasis s)
          nextScan := some (s.now + ms s.pad.record.scanPeriod), scanning := true }
        keymap := { s.keymap with nextTick := some (s.now + ms 100) } }
      ∧ k.periodStart = some s.now := by
  obtain ⟨h, k, settled, records⟩ := settleHost_hostOnly (s := { s with power := .running }) host
  have basis : temperatureBasis { { s with power := .running } with hpc := h, heat := k } = temperatureBasis s :=
    temperatureBasis_of rfl records rfl
  have debounced : recomputeDebounce (settleHost { s with power := .running }) = { s with
      power := .running, hpc := h, heat := k
      pad := { s.pad with basis := temperatureBasis s, count := debounceCount s.pad.record (temperatureBasis s) } } := by
    rw [settled, recomputeDebounce, basis]
  obtain ⟨k', c, started, start⟩ := startPeriod_shape s.now (recomputeDebounce (settleHost { s with power := .running }))
  refine ⟨k', c, ?_, start⟩
  rw [debounced] at started
  rw [loadEnded, debounced, settled]
  dsimp only
  rw [started]
  rfl

theorem dispatchPoll_kept (c : Channel) (s : State) :
    (dispatchPoll c s).power = s.power ∧ (dispatchPoll c s).now = s.now ∧ (dispatchPoll c s).hpc = s.hpc
      ∧ (dispatchPoll c s).heat = s.heat ∧ (dispatchPoll c s).pad = s.pad ∧ (dispatchPoll c s).keymap = s.keymap :=
  ⟨rfl, rfl, rfl, rfl, rfl, rfl⟩

/-- The poll with which the first valid channel is served at the end of the load. -/
theorem dispatchPoll_link (c : Channel) (s : State) :
    (dispatchPoll c s).relay.link = some { use := .poll c true, timeout := none, request :=
      { module := s.probe.table[c].module, op := .read, sequence := s.relay.seq + 1, register := s.probe.table[c].register
        length := 2, data := [] } } := rfl

theorem dispatchPoll_own (c : Channel) (s : State) : (dispatchPoll c s).probe.chans[c].poll = .inFlight :=
  congrArg ChannelState.poll (vset_self ..)

theorem dispatchPoll_other {c d : Channel} (other : d ≠ c) (s : State) :
    (dispatchPoll c s).probe.chans[d] = s.probe.chans[d] := vset_other _ _ other

/-- The arbiter at the end of the load grants the first valid channel's poll, if there is one. -/
theorem arbitrate_queued {u : State} (empty : u.relay.queue = []) (idle : u.relay.link = none) :
    (∀ c : Channel, u.probe.table[c].valid = true → (∀ d < c, u.probe.table[d].valid = false) →
      arbitrate (queueChannels u) = dispatchPoll c (queueChannels u))
    ∧ ((∀ c : Channel, u.probe.table[c].valid = false) → arbitrate (queueChannels u) = queueChannels u) :=
  ⟨fun _ valid first => arbitrate_poll idle (grantTo_poll (queueChannels_head valid first) (.inl empty)),
    fun none_ => arbitrate_nobody (grantTo_nobody (queueChannels_nobody none_) empty)⟩

theorem firstValid (s : State) : (∃ c : Channel, s.probe.table[c].valid = true ∧ ∀ d < c, s.probe.table[d].valid = false)
    ∨ ∀ c : Channel, s.probe.table[c].valid = false := by
  by_cases none_ : ∀ c : Channel, s.probe.table[c].valid = false
  · exact .inr none_
  · obtain ⟨c, valid⟩ := not_forall.mp none_
    have valid : s.probe.table[c].valid = true := Bool.not_eq_false _ ▸ valid
    obtain ⟨m, mem, least⟩ := wellFounded_lt.has_min { d : Channel | s.probe.table[d].valid = true } ⟨c, valid⟩
    exact .inl ⟨m, mem, fun d lower => Bool.eq_false_iff.mpr fun earlier => least d earlier lower⟩

theorem loadEnded_fields {s : State} (host : s.hpc.host = .standby) :
    (loadEnded s).power = .running ∧ (loadEnded s).now = s.now
      ∧ (loadEnded s).hpc = (if s.hpc.sequence.autoStart then enterPreheat { s with power := .running }
        else { s with power := .running }).hpc
      ∧ (loadEnded s).heat.periodStart = some s.now
      ∧ (loadEnded s).pad.count = debounceCount s.pad.record (temperatureBasis s)
      ∧ (loadEnded s).pad.nextScan = some (s.now + ms s.pad.record.scanPeriod) ∧ (loadEnded s).pad.scanning = true
      ∧ (loadEnded s).keymap.nextTick = some (s.now + ms 100) ∧ (loadEnded s).probe = s.probe ∧ (loadEnded s).relay = s.relay := by
  obtain ⟨k, c, ended, start⟩ := loadEnded_shape host
  rw [ended]
  exact ⟨rfl, rfl, rfl, start, rfl, rfl, rfl, rfl, rfl, rfl⟩

section
variable {u : State} (empty : u.relay.queue = []) (idle : u.relay.link = none)
include empty idle

theorem grantedLoad_kept :
    (arbitrate (queueChannels u)).power = u.power ∧ (arbitrate (queueChannels u)).now = u.now
      ∧ (arbitrate (queueChannels u)).hpc = u.hpc ∧ (arbitrate (queueChannels u)).heat = u.heat
      ∧ (arbitrate (queueChannels u)).pad = u.pad ∧ (arbitrate (queueChannels u)).keymap = u.keymap := by
  obtain ⟨granted, alone⟩ := arbitrate_queued empty idle
  rcases firstValid u with ⟨c, valid, before⟩ | none_
  · rw [granted c valid before]
    exact dispatchPoll_kept c (queueChannels u)
  · rw [alone none_]
    simp only [queueChannels, and_self]

/-- Every valid channel is queued at the end of the load, and the first of them is polled at once. -/
theorem grantedLoad_channels :
    (∀ c : Channel, u.probe.table[c].valid = false → (arbitrate (queueChannels u)).probe.chans[c] = ChannelState.initial)
    ∧ (∀ c : Channel, u.probe.table[c].valid = true →
        ¬ (u.probe.table[c].valid = true ∧ ∀ d < c, u.probe.table[d].valid = false) →
        (arbitrate (queueChannels u)).probe.chans[c]
          = { ChannelState.initial with poll := .queued, due := some u.now, joined := some u.now })
    ∧ (∀ c : Channel, (u.probe.table[c].valid = true ∧ ∀ d < c, u.probe.table[d].valid = false) →
        (arbitrate (queueChannels u)).probe.chans[c].poll = .inFlight ∧ ∃ l, (arbitrate (queueChannels u)).relay.link = some l
          ∧ l.use = .poll c true ∧ l.request.module = u.probe.table[c].module
          ∧ l.request.register = u.probe.table[c].register ∧ l.request.sequence = u.relay.seq + 1) := by
  obtain ⟨granted, alone⟩ := arbitrate_queued empty idle
  rcases firstValid u with ⟨c, valid, before⟩ | none_
  · rw [granted c valid before]
    refine ⟨fun d off => ?_, fun d on later => ?_, fun d ⟨on, first⟩ => ?_⟩
    · have other : d ≠ c := fun same => absurd (same ▸ off) (by rw [valid]; decide)
      rw [dispatchPoll_other other, queueChannels_get, if_neg (by rw [off]; decide)]
    · have other : d ≠ c := fun same => later (same ▸ ⟨valid, before⟩)
      rw [dispatchPoll_other other, queueChannels_get, if_pos on]
    · have same : d = c := by
        rcases lt_trichotomy d c with lower | same | higher
        · exact absurd on (by rw [before d lower]; decide)
        · exact same
        · exact absurd valid (by rw [first c higher]; decide)
      subst same
      exact ⟨dispatchPoll_own d _, _, dispatchPoll_link d _, rfl, rfl, rfl, rfl⟩
  · rw [alone none_]
    refine ⟨fun d off => ?_, fun d on => absurd on (by rw [none_ d]; decide), fun d ⟨on, _⟩ => absurd on (by rw [none_ d]; decide)⟩
    rw [queueChannels_get, if_neg (by rw [off]; decide)]

end

/-! ### STORE_IMAGE (R169) -/

section
variable {s : State} {tag : Tag} {code : Byte}

theorem exec_storeImage (ready : Ready s) : exec (.storeImage tag code) s = finish (takeStoreImage tag code s) := by
  rw [exec, execStoreImage, upon_calm ready.2, takeFrame_accepts ready.1]

theorem storeImage_refused (ready : Ready s) {st : Status} (refuses : takeStoreImage tag code s = answer tag 0x58 (.refuse st) s) :
    exec (.storeImage tag code) s = supervisorOp tag 0x58 (fun s => (s, .refuse st)) s := by
  rw [exec_storeImage ready, refuses, supervisorOp, takeFrame_accepts ready.1]

theorem speedOf_low {code : Byte} (low : code.toNat ≤ 1) : speedOf code = some (if code = 0 then .low else .high) := by
  by_cases zero : code = 0
  · rw [speedOf, if_pos zero, if_pos zero]
  · have one : code = 1 := by
      apply BitVec.eq_of_toNat_eq
      have other : code.toNat ≠ 0 := fun h => zero (BitVec.eq_of_toNat_eq h)
      show code.toNat = 1
      omega
    rw [speedOf, if_neg zero, if_pos one, if_neg zero]

theorem speedOf_high {code : Byte} (high : 2 ≤ code.toNat) : speedOf code = none := by
  have zero : code ≠ 0 := fun h => absurd high (by rw [h]; decide)
  have one : code ≠ 1 := fun h => absurd high (by rw [h]; decide)
  rw [speedOf, if_neg zero, if_neg one]

end

theorem errorTime_fresh (power : Power) (i : Image) (st : Store) (h : ImageState) (pg : Vector Bool 3) (choice : Nat)
    (pending : List Instr) : errorTime (State.fresh power i st h pg choice pending) = 0 := by
  show 0 / 8 % 4294967296 = 0
  norm_num

theorem imageFault_latched : (Errors.initial 0).latch .imageFault 0 {} =
    { flags := 0x8000, ignore := 0, multiple := false, detail := some { cls := .imageFault, time := 0, fields := {} } } := by decide

/-- The image load of a damaged store records IMAGE_FAULT, before any frame can be sent (R170). -/
theorem imageCheck_damaged {s : State} (damaged : s.store = .damaged) : imageCheck s = recordError .imageFault {} s := by
  rw [imageCheck, damaged]

/-- Settles O50: power-on is `State.fresh` of the store's tables, and the end of the load (`loadEnded_shape`) is followed by one
grant (`grantedLoad_channels`). -/
theorem imageStoreAndPower : Obligations.ImageStoreAndPower := by
  unfold Obligations.ImageStoreAndPower
  intro s kept fresh started contents loaded first
  refine ⟨fun tag code ready => ⟨fun storing => ?_, fun still high => ?_, fun still low => ?_⟩, fun image captured calm => ?_,
    fun calm none_ => ?_, rfl, fun image held => ?_, fun empty => ?_, fun damaged => ?_, fun calm other => ?_,
    fun loading host empty idle => ?_⟩
  · rw [storeImage_refused ready (if_pos storing)]
    exact supervisorOp_replied ready.1 tag 0x58 rfl ready.delivers (by decide)
  · have refuses : takeStoreImage tag code s = answer tag 0x58 (.refuse .badRequest) s := by
      rw [takeStoreImage, if_neg (Bool.eq_false_iff.mp still), speedOf_high high]
    rw [storeImage_refused ready refuses]
    exact supervisorOp_bad ready.1 tag 0x58 _ rfl
  · rw [exec_storeImage ready, takeStoreImage, if_neg (Bool.eq_false_iff.mp still), speedOf_low low]
    rfl
  · obtain ⟨claim, bound, storing⟩ : ∃ claim bound, s.imageState = .storing image claim bound := by
      cases state : s.imageState with
      | valid | factory => exact absurd (state ▸ captured) nofun
      | storing i claim bound =>
        rw [state] at captured
        exact ⟨claim, bound, by rw [Option.some.inj captured]⟩
    have ends : exec .storeComplete s = execStoreComplete s := rfl
    have claimIs : storeClaim s = claim := by rw [storeClaim, storing]
    rw [ends, execStoreComplete, upon_calm calm, claimIs, storing]
    refine ⟨fun unclaimed => ?_, fun tag claimed => ?_⟩
    · rw [unclaimed]
      rfl
    · rw [claimed]
      rfl
  · have ends : exec .storeComplete s = execStoreComplete s := rfl
    rw [ends, execStoreComplete, upon_calm calm]
    cases state : s.imageState with
    | valid | factory => rfl
    | storing i claim bound => exact absurd (state ▸ none_) nofun
  · have store : storeAfterLoss s = .image image := held
    have on : exec .powerOn s = .next (applyPower s) := rfl
    rw [on, applyPower, store]
    show Host.Outcome.next _ = _
    simp only [started, fresh, held]
    rfl
  · have store : storeAfterLoss s = .empty := empty
    have on : exec .powerOn s = .next (applyPower s) := rfl
    rw [on, applyPower, store]
    simp only [started, fresh, empty]
    rfl
  · have store : storeAfterLoss s = .damaged := damaged
    have on : exec .powerOn s = .next (applyPower s) := rfl
    rw [on, applyPower, store, imageCheck_damaged rfl, recordError_deaf rfl, latchError, errorTime_fresh]
    have fresh_ : started Image.factory .factory
        = State.fresh .loading Image.factory .damaged .factory s.hpc.powerGood s.choice s.pending := by
      simp only [started, fresh, damaged]
      rfl
    rw [fresh_, ← imageFault_latched]
    rfl
  · have ends : exec .imageLoadComplete s = execImageLoadComplete s := rfl
    rw [ends, execImageLoadComplete, upon_calm calm, if_neg other]
    rfl
  · have ends : exec .imageLoadComplete s = .next (startTransmit (completeLoad s)) := by
      have calm : Calm s := calm_of_host (by rw [host]; decide)
      have same : exec .imageLoadComplete s = execImageLoadComplete s := rfl
      rw [same, execImageLoadComplete, upon_calm calm, if_pos loading, finish]
    obtain ⟨power, now, hpc, start, count, nextScan, scanning, tick, probe, relay⟩ := loadEnded_fields host
    obtain ⟨power', now', hpc', heat', pad', keymap'⟩ := grantedLoad_kept (u := loadEnded s) (relay ▸ empty) (relay ▸ idle)
    obtain ⟨off, later, leads⟩ := grantedLoad_channels (u := loadEnded s) (relay ▸ empty) (relay ▸ idle)
    rw [probe] at off later leads
    rw [now] at later
    rw [relay] at leads
    refine ⟨_, ends, ?_⟩
    rw [startTransmit_power, startTransmit_now, startTransmit_hpc, startTransmit_heat, startTransmit_pad, startTransmit_keymap,
      startTransmit_probe, startTransmit_relay, completeLoad_eq, power', now', hpc', heat', pad', keymap']
    exact ⟨power, now, hpc, start, count, nextScan, scanning, tick, off, later, leads⟩

end Sys2Proof.Machine
end

section
/-! SUPPORT. SUPERVISOR_RESET (O51): what its blocks clear, and the restart that a removed reply was to make. -/

namespace Sys2Proof.Machine
open Sys2Proof

/-! ### Releases leave everything but keys and reports (R126) -/

theorem latch_ignore (c : ErrorClass) (time : Nat) (f : ErrorFields) (e : Errors) : (e.latch c time f).ignore = e.ignore := by
  unfold Errors.latch
  split
  · rfl
  · split <;> rfl

theorem dropNotice_ignore (code : Nat) (s : State) : (dropNotice code s).errs.ignore = s.errs.ignore := by
  unfold dropNotice dropOnce
  split
  · exact (latch_ignore ..).trans (latch_ignore ..)
  · exact latch_ignore ..

theorem handNotice_ignore (n : Notice) (s : State) : (handNotice n s).errs.ignore = s.errs.ignore := by
  unfold handNotice
  split
  · split
    · rw [startTransmit_errs]
    · exact dropNotice_ignore ..
  · rfl

/-- Only the layer stack, the positions' key state and what reports change differ, the ignore mask not among it. -/
def KeysOnly (s t : State) : Prop :=
  ∃ stack positions e c n x, e.ignore = s.errs.ignore ∧ t =
    { s with keymap := { s.keymap with stack := stack, positions := positions }, errs := e, counters := c
             panel := { s.panel with notices := n, tx := x } }

theorem KeysOnly.refl (s : State) : KeysOnly s s :=
  ⟨s.keymap.stack, s.keymap.positions, s.errs, s.counters, s.panel.notices, s.panel.tx, rfl, rfl⟩

theorem KeysOnly.trans {s t u : State} (first : KeysOnly s t) (second : KeysOnly t u) : KeysOnly s u := by
  obtain ⟨_, _, _, _, _, _, ignore, rfl⟩ := first
  obtain ⟨stack, positions, e, c, n, x, kept, rfl⟩ := second
  exact ⟨stack, positions, e, c, n, x, kept.trans ignore, rfl⟩

theorem OnlyReports.keysOnly {s t : State} (h : OnlyReports s t) (ignore : t.errs.ignore = s.errs.ignore) : KeysOnly s t := by
  obtain ⟨e, c, n, x, rfl⟩ := h
  exact ⟨s.keymap.stack, s.keymap.positions, e, c, n, x, ignore, rfl⟩

theorem setStack_keysOnly (stack : List StackEntry) (s : State) : KeysOnly s (setStack stack s) :=
  ⟨stack, s.keymap.positions, s.errs, s.counters, s.panel.notices, s.panel.tx, rfl, rfl⟩

theorem setKey_keysOnly (p : Position) (x : KeyPosition) (s : State) : KeysOnly s (setKey p x s) :=
  ⟨s.keymap.stack, vset s.keymap.positions p x, s.errs, s.counters, s.panel.notices, s.panel.tx, rfl, rfl⟩

theorem countEvent_keysOnly (e : CounterEvent) (s : State) : KeysOnly s (countEvent e s) :=
  (countEvent_reports e s).keysOnly rfl

theorem keyNotice_keysOnly (p : Position) (code : Nat) (d : Direction) (layer : Fin 4) (forced : Bool) (s : State) :
    KeysOnly s (keyNotice p code d layer forced s) :=
  ((handNotice_reports _ s).keysOnly (handNotice_ignore _ s)).trans (countEvent_keysOnly _ _)

theorem terminationCheck_keysOnly (s : State) : KeysOnly s (terminationCheck s) := by
  obtain ⟨k, -, same⟩ := terminate_endsAt s.keymap.stack.length s (Nat.le_refl _)
  rw [terminationCheck, same]
  exact setStack_keysOnly (s.keymap.stack.drop k) s

theorem releaseAction_keysOnly (p : Position) (forced : Bool) (s : State) : KeysOnly s (releaseAction p forced s) := by
  unfold releaseAction
  dsimp only
  split
  · split
    · exact keyNotice_keysOnly ..
    · exact countEvent_keysOnly ..
  · exact setKey_keysOnly ..
  · exact .refl s

theorem takeRelease_keysOnly (p : Position) (forced : Bool) (s : State) : KeysOnly s (takeRelease p forced s) :=
  (((setStack_keysOnly _ s).trans (releaseAction_keysOnly p forced _)).trans (setKey_keysOnly ..)).trans
    (terminationCheck_keysOnly _)

theorem releases_keysOnly (l : List Position) (s : State) : KeysOnly s (l.foldl (fun s p => takeRelease p true s) s) :=
  List.foldlRecOn l _ (motive := fun t => KeysOnly s t) (.refl s) fun t h p _ => h.trans (takeRelease_keysOnly p true t)

/-! ### The blocks of a SUPERVISOR_RESET (R168) -/

/-- The rules that `gone` names have their runtime state cleared. -/
def clearRules (gone : Slot → Bool) (s : State) : State :=
  { s with acts.rules := Vector.ofFn fun i : Slot => if gone i then RuleState.clear else s.acts.rules[i] }

/-- One rule's reset at a SUPERVISOR_RESET (R89). -/
def resetSlot (s : State) (i : Slot) : State := setRule i RuleState.clear (releaseSlot i s)

theorem resetSlot_eq (s : State) (i : Slot) :
    resetSlot s i = lowerCounts (fun p => if trippedWith s p i then 1 else 0) (clearRules (fun j => j = i) s) := by
  simp only [resetSlot, releaseSlot_eq_lowerCounts, setRule, clearRules, vset_eq_ofFn, decide_eq_true_eq]
  rfl

theorem trippedWith_clearRules {gone : Slot → Bool} {i : Slot} (h : gone i = false) (s : State) (p : LevelAction) :
    trippedWith (clearRules gone s) p i = trippedWith s p i := by
  simp [trippedWith, clearRules, h]

theorem trippedWith_lowerCounts (f : LevelAction → Nat) (s : State) (p : LevelAction) (i : Slot) :
    trippedWith (lowerCounts f s) p i = trippedWith s p i := rfl

theorem vmap_const {α β : Type} {n : Nat} (c : β) (v w : Vector α n) : vmap (fun _ => c) v = vmap (fun _ => c) w := by
  ext k hk
  have left := vmap_get (fun _ => c) v ⟨k, hk⟩
  have right := vmap_get (fun _ => c) w ⟨k, hk⟩
  rw [Fin.getElem_fin] at left right
  exact left.trans right.symm

theorem clearRules_clearRules (g h : Slot → Bool) (s : State) :
    clearRules g (clearRules h s) = clearRules (fun i => h i || g i) s := by
  have nested {α : Type} (i : Slot) (x y : α) :
      (if g i then x else if h i then x else y) = if h i || g i then x else y := by
    cases g i <;> simp
  simp only [clearRules, Fin.getElem_fin, Vector.getElem_ofFn, Fin.eta, nested]

theorem foldl_resetSlot {l : List Slot} (once : l.Nodup) (s : State) :
    l.foldl resetSlot s = lowerCounts (fun p => l.countP (trippedWith s p)) (clearRules (fun i => i ∈ l) s) := by
  induction l generalizing s with
  | nil => simp [clearRules]
  | cons i l ih =>
    obtain ⟨apart, once⟩ := List.nodup_cons.1 once
    have others (p : LevelAction) : l.countP (trippedWith (resetSlot s i) p) = l.countP (trippedWith s p) :=
      List.countP_congr fun j hj => by
        have other : decide (j = i) = false := decide_eq_false fun same => apart (same ▸ hj)
        rw [resetSlot_eq, trippedWith_lowerCounts, trippedWith_clearRules (gone := fun j => j = i) other]
    have lowered (g : Slot → Bool) (f : LevelAction → Nat) (s : State) :
        clearRules g (lowerCounts f s) = lowerCounts f (clearRules g s) := rfl
    simp only [List.foldl_cons, ih once, others]
    simp only [resetSlot_eq, lowered, clearRules_clearRules, lowerCounts_lowerCounts, List.countP_cons, List.mem_cons,
      Bool.decide_or, Nat.add_comm]

/-- Every rule is cleared at once, and every count is lowered by the number of rules tripped with its action. -/
theorem resetRules_eq (s : State) :
    resetRules s = lowerCounts (fun p => (trippedSlots s p).length)
      { s with acts := { s.acts with rules := vmap (fun _ => RuleState.clear) s.acts.rules } } := by
  have every : clearRules (fun i => i ∈ allSlots) s
      = { s with acts := { s.acts with rules := vmap (fun _ => RuleState.clear) s.acts.rules } } := by
    have rules : (Vector.ofFn fun i : Slot => if decide (i ∈ allSlots) = true then RuleState.clear else s.acts.rules[i])
        = vmap (fun _ => RuleState.clear) s.acts.rules := by
      ext k hk
      have cleared := vmap_get (fun _ => RuleState.clear) s.acts.rules ⟨k, hk⟩
      rw [Fin.getElem_fin] at cleared
      simp only [Vector.getElem_ofFn, mem_allSlots, decide_true, if_true, cleared]
    rw [clearRules, rules]
  have counted (p : LevelAction) : allSlots.countP (trippedWith s p) = (trippedSlots s p).length := by
    rw [trippedSlots_eq_filter, List.countP_eq_length_filter]
  have folded : resetRules s = allSlots.foldl resetSlot s := rfl
  rw [folded, foldl_resetSlot (show allSlots.Nodup from List.nodup_finRange 32), every]
  simp only [counted]

/-- The state a SUPERVISOR_RESET leaves before a pending restart is made and its reply placed (R168). -/
def blanked (s : State) : State :=
  lowerCounts (fun p => (trippedSlots s p).length)
    { s with
      relay := (silenced s).relay, imageState := s.imageState.unclaim
      pad := { s.pad with positions := vmap (fun _ => PadPosition.initial) s.pad.positions }
      keymap := { s.keymap with stack := [], positions := vmap (fun _ => KeyPosition.initial) s.keymap.positions }
      acts := { s.acts with rules := vmap (fun _ => RuleState.clear) s.acts.rules }
      flags := 0, errs := Errors.initial s.errs.ignore, counters := Counter.initial
      panel := { s.panel with replies := [], notices := [], tx := .idle } }

theorem resetKeys_shape (s : State) :
    ∃ e c n x, e.ignore = s.errs.ignore ∧ resetKeys s = { s with
      pad := { s.pad with positions := vmap (fun _ => PadPosition.initial) s.pad.positions }
      keymap := { s.keymap with stack := [], positions := vmap (fun _ => KeyPosition.initial) s.keymap.positions }
      errs := e, counters := c, panel := { s.panel with notices := n, tx := x } } := by
  obtain ⟨stack, positions, e, c, n, x, ignore, keys⟩ :=
    releases_keysOnly (allPositions.filter fun p => releasedAtReset s.pad.positions[p]) s
  refine ⟨e, c, n, x, ignore, ?_⟩
  rw [vmap_const KeyPosition.initial s.keymap.positions positions]
  simp only [resetKeys, keys]
  rfl

/-- The state after the blocks' resets, the records' last. -/
theorem resetBlocks_shape (s : State) :
    ∃ n x, resetBlocks s = lowerCounts (fun p => (trippedSlots s p).length)
      { s with
        relay := (silenced s).relay
        pad := { s.pad with positions := vmap (fun _ => PadPosition.initial) s.pad.positions }
        keymap := { s.keymap with stack := [], positions := vmap (fun _ => KeyPosition.initial) s.keymap.positions }
        acts := { s.acts with rules := vmap (fun _ => RuleState.clear) s.acts.rules }
        flags := 0, errs := Errors.initial s.errs.ignore, counters := Counter.initial
        panel := { s.panel with notices := n, tx := x } } := by
  obtain ⟨e, c, n, x, ignore, keys⟩ := resetKeys_shape (abandonRelay s)
  have ignore : e.ignore = s.errs.ignore := ignore
  refine ⟨n, x, ?_⟩
  rw [resetBlocks, keys, resetRules_eq, resetRecords, ← ignore]
  rfl

theorem flushed_resetBlocks (s : State) : flushQueues (resetBlocks s) = blanked s := by
  obtain ⟨n, x, blocks⟩ := resetBlocks_shape s
  rw [blocks]
  rfl

theorem resetBlocks_replies (s : State) : (resetBlocks s).panel.replies = s.panel.replies := by
  obtain ⟨n, x, blocks⟩ := resetBlocks_shape s
  rw [blocks]
  rfl

theorem resetQueues_resetBlocks (s : State) :
    resetQueues (resetBlocks s) =
      if s.panel.replies.any Reply.restart then hostRestartReplyLeft (blanked s) else blanked s := by
  simp only [resetQueues, flushed_resetBlocks, resetBlocks_replies]

/-! ### The pending restart (R108) -/

/-- The host state a pending restart leads to. -/
def RestartKind.target : RestartKind → HostState
  | .soft => .restart
  | .hard => .powerCycle

/-- The state in which a pending restart is made. -/
def unrequested (s : State) : State := { s with hpc.pendingRestart := none }

/-- The Host Power Controller when a HARD request changes the host state (R108). -/
def requestedCycleHpc (s : State) : Hpc :=
  powerCycleHpc (unwatched (logged .hostRequest .hard s.hpc.hardList.length s.hpc.softCount (unrequested s))) s.now

/-- A SOFT request leaves the host in RESTART (R101, R108). -/
theorem makePendingRestart_soft (s : State) :
    makePendingRestart .soft s = moveHost .restart { s with hpc := softResetHpc .hostRequest (unrequested s) } :=
  softRestart_eq .hostRequest (unrequested s)

/-- A HARD request leaves the host in POWER_CYCLE (R104, R108). -/
theorem makePendingRestart_hard (s : State) :
    makePendingRestart .hard s = moveHost .powerCycle { s with hpc := requestedCycleHpc s } := by
  simp only [makePendingRestart, writeLog_eq, discardWatchdog_eq, enterPowerCycle_eq]
  rfl

theorem requestedCycleHpc_kept (s : State) :
    (requestedCycleHpc s).host = s.hpc.host ∧ (requestedCycleHpc s).sequence = s.hpc.sequence
      ∧ (requestedCycleHpc s).ladder = s.hpc.ladder := ⟨rfl, rfl, rfl⟩

theorem softResetHpc_kept (cause : RestartCause) (s : State) :
    (softResetHpc cause s).host = s.hpc.host ∧ (softResetHpc cause s).sequence = s.hpc.sequence
      ∧ (softResetHpc cause s).ladder = s.hpc.ladder := ⟨rfl, rfl, rfl⟩

theorem ite_hostWord (c : Prop) [Decidable c] (o : Outputs) :
    (if c then { o with hostWord := 0 } else o) = { o with hostWord := if c then 0 else o.hostWord } := by
  split
  · rfl
  · rfl

/-- A host restart event changes no record of the Host Power Controller. -/
theorem moveHost_event_shape {new : HostState} (event : new.restartEvent = true) (s : State) {h : Hpc}
    (kept : h.host = s.hpc.host ∧ h.sequence = s.hpc.sequence ∧ h.ladder = s.hpc.ladder) :
    ∃ h' w, h'.host = new ∧ h'.sequence = s.hpc.sequence ∧ h'.ladder = s.hpc.ladder ∧
      moveHost new { s with hpc := h } =
        { silenced s with hpc := h', heat := budgeted new s, keymap := unreported s, outs := { s.outs with hostWord := w } } := by
  obtain ⟨host, sequence, ladder⟩ := kept
  have moved := moveHost_event_hpc event s host
  rw [ite_hostWord] at moved
  refine ⟨_, _, ?_, ?_, ?_, moved⟩
  · rfl
  · exact sequence
  · exact ladder

theorem makePendingRestart_shape (kind : RestartKind) (s : State) :
    ∃ h w, h.host = kind.target ∧ h.sequence = s.hpc.sequence ∧ h.ladder = s.hpc.ladder ∧ makePendingRestart kind s =
      { silenced s with
        hpc := h, heat := budgeted kind.target s, keymap := unreported s, outs := { s.outs with hostWord := w } } := by
  cases kind with
  | soft =>
    rw [makePendingRestart_soft]
    exact moveHost_event_shape (new := .restart) rfl s (softResetHpc_kept .hostRequest (unrequested s))
  | hard =>
    rw [makePendingRestart_hard]
    exact moveHost_event_shape (new := .powerCycle) rfl s (requestedCycleHpc_kept s)

theorem vmap_vmap_const {α β : Type} {n : Nat} {f : β → β} {c : β} (fixed : f c = c) (v : Vector α n) :
    vmap f (vmap (fun _ => c) v) = vmap (fun _ => c) v := by
  ext k hk
  have outer := vmap_get f (vmap (fun _ => c) v) ⟨k, hk⟩
  have inner := vmap_get (fun _ => c) v ⟨k, hk⟩
  rw [Fin.getElem_fin] at outer inner
  exact outer.trans ((congrArg f inner).trans (fixed.trans inner.symm))

section
variable (s : State)

theorem unreported_blanked : unreported (blanked s) = (blanked s).keymap := by
  unfold unreported
  split
  · have kept := vmap_vmap_const (f := fun p : KeyPosition => { p with reported := false }) (c := KeyPosition.initial) rfl
      s.keymap.positions
    exact congrArg (fun v => { (blanked s).keymap with positions := v }) kept
  · rfl

theorem silenced_blanked_relay : (silenced (blanked s)).relay = (silenced s).relay := by
  have again (k : Link) : (if (if k.use = .relay then { k with use := .orphan } else k).use = .relay
      then { (if k.use = .relay then { k with use := .orphan } else k) with use := .orphan }
      else (if k.use = .relay then { k with use := .orphan } else k)) = if k.use = .relay then { k with use := .orphan } else k := by
    by_cases relayed : k.use = .relay
    · rw [if_pos relayed]
      rfl
    · rw [if_neg relayed, if_neg relayed]
  cases link : s.relay.link with
  | none => simp [silenced, blanked, lowerCounts, link]
  | some k =>
    simp only [silenced, blanked, lowerCounts, link, Option.map_some, again]

end

/-- SUPERVISOR_RESET taken: its blocks are cleared, and where a restart is made no reply is placed (R168). -/
theorem exec_supervisorReset {s : State} {tag : Tag} (ready : Ready s) :
    (∀ kind, s.panel.replies.any Reply.restart = true → s.hpc.pendingRestart = some kind →
      exec (.supervisorReset tag) s = .next (makePendingRestart kind (blanked s)))
    ∧ (s.panel.replies.any Reply.restart = false ∨ s.hpc.pendingRestart = none →
      exec (.supervisorReset tag) s = .next (replied tag .done [] (blanked s))) := by
  have owner : exec (.supervisorReset tag) s = upon s (supervisorOp tag 0x5F applySupervisorReset) := rfl
  refine ⟨fun kind marked pending => ?_, fun still => exec_replied ready owner (t := blanked s) ?_ ready.delivers (by decide)⟩
  · have made : applySupervisorReset s = (makePendingRestart kind (blanked s), .done) := by
      have pending : (blanked s).hpc.pendingRestart = some kind := pending
      rw [applySupervisorReset, resetQueues_resetBlocks, if_pos marked, hostRestartReplyLeft, pending]
    have deaf : (makePendingRestart kind (blanked s)).hpc.host.delivers = false := by
      obtain ⟨h, w, host, -, -, shape⟩ := makePendingRestart_shape kind (blanked s)
      rw [shape]
      show h.host.delivers = false
      rw [host]
      cases kind <;> rfl
    rw [owner, upon_calm ready.2, supervisorOp, takeFrame_accepts ready.1, made, answer, deaf]
    exact congrArg Host.Outcome.next (startTransmit_deaf deaf)
  · rw [applySupervisorReset, resetQueues_resetBlocks]
    rcases still with unmarked | none_
    · rw [unmarked]
      rfl
    · have none_ : (blanked s).hpc.pendingRestart = none := none_
      have kept : hostRestartReplyLeft (blanked s) = blanked s := by rw [hostRestartReplyLeft, none_]
      rw [kept, ite_self]
      rfl

/-- The done reply stands alone and goes out at once. -/
theorem replied_blanked {s : State} (delivers : s.hpc.host.delivers = true) (tag : Tag) :
    replied tag .done [] (blanked s) = { blanked s with panel := { s.panel with
      replies := [{ tag := tag, address := 0, status := .done, payload := [] }], notices := [], tx := .reply } } := by
  rw [replied, startTransmit_placeReply, placeReply]
  exact startTransmit_reply delivers rfl nofun

/-- Settles O51: the blocks' resets together are `blanked`, and a removed reply's restart changes it by `makePendingRestart_shape`. -/
theorem supervisorResetClearsTheBlocks : Obligations.SupervisorResetClearsTheBlocks := by
  unfold Obligations.SupervisorResetClearsTheBlocks
  intro s tag ready restarts released done q
  obtain ⟨restart, plain⟩ := exec_supervisorReset (tag := tag) ready
  cases marked : restarts with
  | false =>
    have still : s.panel.replies.any Reply.restart = false ∨ s.hpc.pendingRestart = none :=
      (Bool.and_eq_false_iff.mp marked).imp_right fun none_ => Option.not_isSome_iff_eq_none.mp (Bool.eq_false_iff.mp none_)
    refine ⟨_, plain still, ?_⟩
    rw [replied_blanked ready.delivers]
    exact ⟨rfl, rfl, rfl, rfl, rfl, rfl, rfl, rfl, rfl, rfl, rfl, rfl, rfl, rfl, rfl, fun _ => ⟨rfl, rfl, rfl, rfl⟩, nofun⟩
  | true =>
    obtain ⟨isMarked, isPending⟩ := Bool.and_eq_true_iff.mp marked
    obtain ⟨kind, pending⟩ := Option.isSome_iff_exists.mp isPending
    obtain ⟨h, w, host, sequence, ladder, shape⟩ := makePendingRestart_shape kind (blanked s)
    refine ⟨_, restart kind isMarked pending, ?_⟩
    rw [shape, unreported_blanked, budgeted_eq]
    refine ⟨rfl, rfl, rfl, silenced_blanked_relay s, ?_, rfl, rfl, rfl, rfl, rfl, rfl, rfl, ?_, rfl, rfl, nofun, fun _ _ => ⟨rfl, rfl, ?_, ?_⟩⟩
    · show s.imageState.unclaim.unclaim = s.imageState.unclaim
      cases s.imageState <;> rfl
    · simp only [captureImage, sequence, ladder]
      rfl
    · intro soft
      exact host.trans (by rw [Option.some.inj (pending.symm.trans soft)]; rfl)
    · intro hard
      exact host.trans (by rw [Option.some.inj (pending.symm.trans hard)]; rfl)

end Sys2Proof.Machine
end

section
/-! SUPPORT. LOAD_KEYPAD (O25): what a press keeps of the other positions, and the visits where ghost masking ends. -/

namespace Sys2Proof.Machine
open Sys2Proof

/-! ### What a press's actions keep -/

theorem OnlyReports.keymap {s t : State} (h : OnlyReports s t) : t.keymap = s.keymap := by
  obtain ⟨_, _, _, _, rfl⟩ := h
  rfl

/-- Frames waiting for the host stay as they are, unless the host does not take frames any longer. -/
def RepliesWait (s t : State) : Prop :=
  t.hpc.host.delivers = true → s.hpc.host.delivers = true ∧ t.panel.replies = s.panel.replies

/-- Every position keeps its resolution, and every one but p its code. -/
structure Pressing (p : Position) (s t : State) : Prop where
  resolution : ∀ q : Position, t.keymap.positions[q].resolution = s.keymap.positions[q].resolution
  code : ∀ q : Position, q ≠ p → t.keymap.positions[q].code = s.keymap.positions[q].code
  replies : RepliesWait s t

section pressing
variable {p : Position} {s t u : State}

theorem Pressing.trans (first : Pressing p s t) (second : Pressing p t u) : Pressing p s u where
  resolution q := (second.resolution q).trans (first.resolution q)
  code q other := (second.code q other).trans (first.code q other)
  replies delivers := by
    obtain ⟨before, same⟩ := second.replies delivers
    obtain ⟨start, kept⟩ := first.replies before
    exact ⟨start, same.trans kept⟩

/-- What leaves the positions' key state, the host and the reply queue as they are. -/
theorem Pressing.of_eq (positions : t.keymap.positions = s.keymap.positions) (hpc : t.hpc = s.hpc)
    (replies : t.panel.replies = s.panel.replies) : Pressing p s t where
  resolution q := by rw [positions]
  code q _ := by rw [positions]
  replies delivers := ⟨hpc ▸ delivers, replies⟩

theorem Pressing.refl : Pressing p s s := .of_eq rfl rfl rfl

theorem OnlyReports.pressing (h : OnlyReports s t) : Pressing p s t :=
  .of_eq (congrArg Keymap.positions h.keymap) h.hpc h.replies

theorem setStack_pressing (l : List StackEntry) : Pressing p s (setStack l s) := .of_eq rfl rfl rfl

/-- The pressed position's state is replaced by one with the same resolution. -/
theorem setKey_pressing {x : KeyPosition} (same : x.resolution = s.keymap.positions[p].resolution) :
    Pressing p s (setKey p x s) where
  resolution q := by
    by_cases here : q = p
    · rw [here, setKey_positions, vset_self, same]
    · rw [setKey_positions, vset_other _ _ here]
  code q other := by rw [setKey_positions, vset_other _ _ other]
  replies delivers := ⟨delivers, rfl⟩

/-! ### The press action (R132, R134, R135, R140) -/

theorem keyNotice_pressing (code : Nat) (d : Direction) (l : Fin 4) (forced : Bool) :
    Pressing p s (keyNotice p code d l forced s) :=
  (handNotice_reports _ s).pressing.trans (countEvent_reports _ _).pressing

theorem countTop_pressing : Pressing p s (countTop s) := by
  unfold countTop
  split
  · split
    · exact setStack_pressing _
    · exact .refl
  · exact .refl

theorem pressPlain_pressing (code : Nat) (l : Fin 4) : Pressing p s (pressPlain p code l s) := by
  refine Pressing.trans (t := setKey p { s.keymap.positions[p] with code := some code } s) (setKey_pressing rfl) ?_
  unfold pressPlain
  dsimp only
  split
  · refine Pressing.trans ?_ countTop_pressing
    exact (keyNotice_pressing ..).trans (setKey_pressing rfl)
  · exact (countEvent_reports ..).pressing

theorem pushLayer_pressing (l : Fin 4) (termination : Fin 32) (count : Nat) :
    Pressing p s (pushLayer p l termination count s) := by
  unfold pushLayer
  split
  · exact (recordError_reports ..).pressing
  · exact setStack_pressing _

theorem pressLayer_pressing (l : Fin 4) (termination : Fin 32) (count delay : Nat) :
    Pressing p s (pressLayer p l termination count delay s) := by
  unfold pressLayer
  split
  · exact pushLayer_pressing ..
  · exact setKey_pressing rfl

theorem serviceFlags_pressing (f : ServiceFunction) : Pressing p s (serviceFlags f s) := by
  cases f with
  | setFlag n => exact .of_eq rfl rfl rfl
  | clearFlag n => exact .of_eq rfl rfl rfl
  | wake | ackLockout | requestRestart | requestShutdown => exact .refl

theorem pressAction_pressing (e : KeyEntry) (l : Fin 4) : Pressing p s (pressAction p e l s) := by
  cases e with
  | plain code => exact pressPlain_pressing code l
  | layer l' termination count delay => exact pressLayer_pressing l' termination count delay
  | clearOne => exact setStack_pressing _
  | clearAll => exact setStack_pressing _
  | service f c =>
    unfold pressAction
    dsimp only
    split
    · exact serviceFlags_pressing f
    · exact .refl
  | none | transparent => exact .refl

theorem terminationCheck_pressing : Pressing p s (terminationCheck s) := by
  obtain ⟨k, -, same⟩ := terminate_endsAt s.keymap.stack.length s (Nat.le_refl _)
  rw [terminationCheck, same]
  exact setStack_pressing (s.keymap.stack.drop k)

/-! ### The requests of Table 8-7 -/

/-- Where the host leaves RUN and WARN only the reported marks change (R141). -/
theorem unreported_kept (s : State) (q : Position) :
    (unreported s).positions[q].resolution = s.keymap.positions[q].resolution
      ∧ (unreported s).positions[q].code = s.keymap.positions[q].code := by
  unfold unreported
  split
  · rw [vmap_get]
    exact ⟨rfl, rfl⟩
  · exact ⟨rfl, rfl⟩

theorem Pressing.of_unreported (keymap : t.keymap = unreported s) (replies : RepliesWait s t) : Pressing p s t where
  resolution q := by rw [keymap, (unreported_kept s q).1]
  code q _ := by rw [keymap, (unreported_kept s q).2]
  replies := replies

/-- A host that no longer takes frames. -/
theorem Pressing.of_deaf (keymap : t.keymap = s.keymap) (deaf : t.hpc.host.delivers = false) : Pressing p s t where
  resolution q := by rw [keymap]
  code q _ := by rw [keymap]
  replies delivers := absurd (deaf.symm.trans delivers) Bool.false_ne_true

theorem HostOnly.keymap (h : HostOnly s t) : t.keymap = s.keymap := by
  obtain ⟨_, _, rfl, -⟩ := h
  rfl

theorem enterPreheat_pressing (warm : s.hpc.host.keepWarm = true) : Pressing p s (enterPreheat s) := by
  refine .of_deaf ?_ (enterPreheat_deaf s)
  rw [enterPreheat_shape warm]
  exact (evaluateGate_hostOnly rfl).keymap

theorem wakeRequest_pressing : Pressing p s (wakeRequest s) := by
  unfold wakeRequest
  split
  · next asleep => exact enterPreheat_pressing (by rw [asleep.1]; rfl)
  · exact .refl

theorem ackLockout_pressing : Pressing p s (ackLockout s) := by
  unfold ackLockout
  split
  · next locked =>
    have unlisted : Pressing p s { s with hpc := { s.hpc with hardList := [], softCount := 0, retryTimer := none } } :=
      ⟨fun _ => rfl, fun _ _ => rfl, fun delivers => ⟨delivers, rfl⟩⟩
    exact unlisted.trans (enterPreheat_pressing ((congrArg HostState.keepWarm locked).trans rfl))
  · exact .refl

theorem requestRestart_pressing : Pressing p s (requestRestart s) := by
  unfold requestRestart
  split
  · next running =>
    refine .of_unreported ?_ fun delivers => absurd delivers ?_
    · rw [softRestart_shape _ running]
    · rw [softRestart_host]
      decide
  · exact .refl

theorem requestShutdown_pressing : Pressing p s (requestShutdown s) := by
  unfold requestShutdown
  split
  · next running =>
    have before := HostState.delivers_of_running running
    rw [enterDrain_eq running]
    split
    · exact .of_unreported rfl fun _ => ⟨before, rfl⟩
    · exact .of_unreported rfl fun _ => ⟨before, rfl⟩
  · exact .refl

theorem serviceRequest_pressing (f : ServiceFunction) : Pressing p s (serviceRequest f s) := by
  cases f with
  | wake => exact wakeRequest_pressing
  | ackLockout => exact ackLockout_pressing
  | requestRestart => exact requestRestart_pressing
  | requestShutdown => exact requestShutdown_pressing
  | setFlag _ | clearFlag _ => exact .refl

theorem checkWithRequest_pressing (request : Option ServiceFunction) (first : Bool) :
    Pressing p s (checkWithRequest request first s) := by
  unfold checkWithRequest
  split
  · next f =>
    cases first with
    | true => exact (serviceRequest_pressing f).trans terminationCheck_pressing
    | false => exact terminationCheck_pressing.trans (serviceRequest_pressing f)
  · exact terminationCheck_pressing

/-! ### A press as a whole (R132) -/

/-- The pressed position has its resolution recorded; every other one keeps resolution and code. -/
structure PressedAt (p : Position) (s t : State) : Prop where
  resolved : t.keymap.positions[p].resolution.isSome = true
  others : ∀ q : Position, q ≠ p → t.keymap.positions[q].resolution = s.keymap.positions[q].resolution
    ∧ t.keymap.positions[q].code = s.keymap.positions[q].code
  replies : RepliesWait s t

theorem takePress_pressedAt (p : Position) (first : Bool) (s : State) : PressedAt p s (takePress p first s) := by
  have acted : Pressing p (recordResolution p (resolveKey (resetIdle s) p) (resetIdle s)) (takePress p first s) :=
    (pressAction_pressing _ _).trans (checkWithRequest_pressing _ first)
  refine ⟨?_, fun q other => ?_, fun delivers => acted.replies delivers⟩
  · rw [acted.resolution p, recordResolution, setKey_positions, vset_self]
    rfl
  · rw [acted.resolution q, acted.code q other, recordResolution, setKey_positions, vset_other _ _ other]
    exact ⟨rfl, rfl⟩

end pressing

/-! ### Ghost masking ends (R125) -/

/-- A position that ghost masking holds back: MASKED, or OPENING from there. -/
def heldByMask (x : PadPosition) : Bool := x.state = .masked || (x.state = .opening && x.previous = some .masked)

/-- The scan state of a position that ghost masking no longer holds back: CLOSED, or to return there. -/
def unmasked (x : PadPosition) : PadPosition :=
  if x.state = .masked then { x with state := .closed }
  else if x.state = .opening ∧ x.previous = some .masked then { x with previous := some .closed }
  else x

theorem unmasked_of_free {x : PadPosition} (free : heldByMask x = false) : unmasked x = x := by
  simp only [heldByMask, Bool.or_eq_false_iff, decide_eq_false_iff_not, Bool.and_eq_false_imp, decide_eq_true_eq] at free
  obtain ⟨state, opening⟩ := free
  rw [unmasked, if_neg state, if_neg fun both => opening both.1 both.2]

theorem unmaskAtLoad_eq (rf : BitVec 64) (s : State) (p : Position) :
    unmaskAtLoad rf s p = if heldByMask s.pad.positions[p] then
      takePress p (rf.getLsbD p.val) (setPad p (unmasked s.pad.positions[p]) s) else s := by
  unfold unmaskAtLoad
  dsimp only
  split
  · next state => simp only [heldByMask, unmasked, state, decide_true, Bool.true_or, if_true]
  · next state previous =>
    have free : ¬ s.pad.positions[p].state = .masked := by rw [state]; exact nofun
    have held : heldByMask s.pad.positions[p] = true := by
      simp only [heldByMask, state, previous, decide_true, Bool.and_true, Bool.or_true]
    rw [if_pos held, unmasked, if_neg free, if_pos ⟨state, previous⟩]
  · next masked opening =>
    rw [if_neg]
    simp only [heldByMask, Bool.or_eq_true, Bool.and_eq_true, decide_eq_true_eq, not_or, not_and]
    exact ⟨fun state => masked state, fun state previous => opening state previous⟩

/-- The positions of l have been visited, in order. -/
structure Visited (l : List Position) (s t : State) : Prop where
  record : t.pad.record = s.pad.record
  basis : t.pad.basis = s.pad.basis
  count : t.pad.count = s.pad.count
  nextScan : t.pad.nextScan = s.pad.nextScan
  scanning : t.pad.scanning = s.pad.scanning
  seen : ∀ q ∈ l, t.pad.positions[q] = unmasked s.pad.positions[q]
  unseen : ∀ q ∉ l, t.pad.positions[q] = s.pad.positions[q]
  pressed : ∀ q ∈ l, heldByMask s.pad.positions[q] = true → t.keymap.positions[q].resolution.isSome = true
  others : ∀ q, q ∉ l ∨ heldByMask s.pad.positions[q] = false →
    t.keymap.positions[q].resolution = s.keymap.positions[q].resolution
      ∧ t.keymap.positions[q].code = s.keymap.positions[q].code
  replies : RepliesWait s t

theorem Visited.nil (s : State) : Visited [] s s where
  record := rfl
  basis := rfl
  count := rfl
  nextScan := rfl
  scanning := rfl
  seen _ here := absurd here List.not_mem_nil
  unseen _ _ := rfl
  pressed _ here := absurd here List.not_mem_nil
  others _ _ := ⟨rfl, rfl⟩
  replies delivers := ⟨delivers, rfl⟩

theorem unmaskAtLoad_visited (rf : BitVec 64) (s : State) (p : Position) : Visited [p] s (unmaskAtLoad rf s p) := by
  rw [unmaskAtLoad_eq]
  by_cases held : heldByMask s.pad.positions[p] = true
  · rw [if_pos held]
    have press := takePress_pressedAt p (rf.getLsbD p.val) (setPad p (unmasked s.pad.positions[p]) s)
    have pad := takePress_pad p (rf.getLsbD p.val) (setPad p (unmasked s.pad.positions[p]) s)
    refine ⟨by rw [pad]; rfl, by rw [pad]; rfl, by rw [pad]; rfl, by rw [pad]; rfl, by rw [pad]; rfl, fun q here => ?_,
      fun q away => ?_, fun q here _ => ?_, fun q away => ?_, fun delivers => press.replies delivers⟩
    · obtain rfl := List.mem_singleton.mp here
      rw [pad, setPad_position]
    · rw [pad, setPad_positions, vset_other _ _ (mt List.mem_singleton.mpr away)]
    · obtain rfl := List.mem_singleton.mp here
      exact press.resolved
    · refine press.others q ?_
      rintro rfl
      rcases away with out | free
      · exact out (List.mem_singleton.mpr rfl)
      · exact Bool.false_ne_true (free.symm.trans held)
  · rw [if_neg held]
    refine ⟨rfl, rfl, rfl, rfl, rfl, fun q here => ?_, fun _ _ => rfl, fun q here mask => ?_, fun _ _ => ⟨rfl, rfl⟩,
      fun delivers => ⟨delivers, rfl⟩⟩
    · obtain rfl := List.mem_singleton.mp here
      exact (unmasked_of_free (Bool.eq_false_iff.mpr held)).symm
    · obtain rfl := List.mem_singleton.mp here
      exact absurd mask held

theorem Visited.cons {p : Position} {l : List Position} {s u t : State} (new : p ∉ l) (first : Visited [p] s u)
    (rest : Visited l u t) : Visited (p :: l) s t := by
  have away {q : Position} (other : q ≠ p) : q ∉ [p] := mt List.mem_singleton.mp other
  have elsewhere {q : Position} (here : q ∈ l) : q ∉ [p] := away fun same => new (same ▸ here)
  have before {q : Position} (here : q ∈ l) : u.pad.positions[q] = s.pad.positions[q] := first.unseen q (elsewhere here)
  refine ⟨rest.record.trans first.record, rest.basis.trans first.basis, rest.count.trans first.count,
    rest.nextScan.trans first.nextScan, rest.scanning.trans first.scanning, fun q here => ?_, fun q out => ?_,
    fun q here held => ?_, fun q kept => ?_, fun delivers => ?_⟩
  · obtain rfl | later := List.mem_cons.mp here
    · rw [rest.unseen q new, first.seen q (List.mem_singleton.mpr rfl)]
    · rw [rest.seen q later, before later]
  · obtain ⟨other, out⟩ := not_or.mp (mt List.mem_cons.mpr out)
    rw [rest.unseen q out, first.unseen q (away other)]
  · obtain rfl | later := List.mem_cons.mp here
    · rw [(rest.others q (.inl new)).1]
      exact first.pressed q (List.mem_singleton.mpr rfl) held
    · exact rest.pressed q later (by rw [before later]; exact held)
  · have start : q ∉ [p] ∨ heldByMask s.pad.positions[q] = false :=
      kept.imp_left fun out => away (not_or.mp (mt List.mem_cons.mpr out)).1
    have next : q ∉ l ∨ heldByMask u.pad.positions[q] = false := by
      by_cases here : q ∈ l
      · rw [before here]
        exact .inr (kept.resolve_left fun out => out (List.mem_cons_of_mem _ here))
      · exact .inl here
    obtain ⟨resolution, code⟩ := rest.others q next
    obtain ⟨resolution', code'⟩ := first.others q start
    exact ⟨resolution.trans resolution', code.trans code'⟩
  · obtain ⟨halfway, same⟩ := rest.replies delivers
    obtain ⟨start, kept⟩ := first.replies halfway
    exact ⟨start, same.trans kept⟩

theorem foldl_unmaskAtLoad_visited (rf : BitVec 64) {l : List Position} (once : l.Nodup) (s : State) :
    Visited l s (l.foldl (unmaskAtLoad rf) s) := by
  induction l generalizing s with
  | nil => exact .nil s
  | cons p l ih =>
    obtain ⟨new, once⟩ := List.nodup_cons.mp once
    exact (unmaskAtLoad_visited rf s p).cons new (ih once _)

theorem allPositions_nodup : allPositions.Nodup := List.nodup_finRange 64

/-! ### LOAD_KEYPAD (R113, R116, R125) -/

/-- The state in which the record is replaced and N recomputed. -/
def keypadLoaded (r : KeypadRecord) (s : State) : State := recomputeDebounce { s with pad := { s.pad with record := r } }

theorem applyLoadKeypad_eq (rf : BitVec 64) (r : KeypadRecord) (s : State) :
    applyLoadKeypad rf r s =
      (fun t => (t, { status := .done, payload := byte1 t.pad.count }))
        (if s.pad.record.ghostMasking && !r.ghostMasking then allPositions.foldl (unmaskAtLoad rf) (keypadLoaded r s)
         else keypadLoaded r s) := rfl

section
variable {s : State} {r : KeypadRecord}

theorem exec_loadKeypad (tag : Tag) (order : BitVec 64) (ready : Ready s) (storing : s.imageState.isStoring = false)
    (fits : r.inRange = true) :
    exec (.loadKeypad tag (keypadBytes r) order) s = upon s (supervisorOp tag 0x30 (applyLoadKeypad order r)) :=
  load_exec ready storing (keypadBytes_length r) (readKeypad_keypadBytes fits) rfl

/-- Where the host takes frames no longer, the reply of the operation is not placed. -/
theorem exec_owner_deaf {i : Instr} {tag : Tag} {op : Byte} {owner : State → State × Answer} {t : State} {a : Answer}
    (ready : Ready s) (taken : exec i s = upon s (supervisorOp tag op owner)) (owned : owner s = (t, a))
    (deaf : t.hpc.host.delivers = false) (accepted : a.status ≠ .badRequest) : exec i s = .next t := by
  rw [taken, upon_calm ready.2, supervisorOp, takeFrame_accepts ready.1, owned]
  have silent : answer tag op a t = t := by
    rw [answer, if_neg accepted, deaf]
    rfl
  show Host.Outcome.next (startTransmit (answer tag op a t)) = .next t
  rw [silent, startTransmit_deaf deaf]

/-- The load where ghost masking ends: its reply follows the replies that wait, where the host still takes frames. -/
theorem exec_loadKeypad_unmasking {tag : Tag} {order : BitVec 64} {u : State} (ready : Ready s)
    (storing : s.imageState.isStoring = false) (fits : r.inRange = true) (masking : s.pad.record.ghostMasking = true)
    (ends : r.ghostMasking = false) (visited : allPositions.foldl (unmaskAtLoad order) (keypadLoaded r s) = u)
    (waits : RepliesWait (keypadLoaded r s) u) :
    ∃ t, exec (.loadKeypad tag (keypadBytes r) order) s = .next t ∧ t.pad = u.pad ∧ t.keymap = u.keymap
      ∧ (t.hpc.host.delivers = true → t.panel.replies =
          s.panel.replies ++ [{ tag := tag, address := 0, status := .done, payload := byte1 u.pad.count }]) := by
  have taken := exec_loadKeypad tag order ready storing fits
  have owned : applyLoadKeypad order r s = (u, { status := .done, payload := byte1 u.pad.count }) := by
    rw [applyLoadKeypad_eq, masking, ends, Bool.not_false, Bool.and_true, if_pos rfl, visited]
  cases delivers : u.hpc.host.delivers with
  | true =>
    refine ⟨_, exec_replied ready taken owned delivers (by decide), ?_, ?_, fun _ => ?_⟩
    · rw [replied, startTransmit_pad, placeReply_pad]
    · rw [replied, startTransmit_keymap, placeReply_keymap]
    · rw [replied, startTransmit_replies, placeReply_replies, (waits delivers).2]
      rfl
  | false =>
    exact ⟨u, exec_owner_deaf ready taken owned delivers nofun, rfl, rfl,
      fun takes => absurd (delivers.symm.trans takes) Bool.false_ne_true⟩

end

/-- Settles O25: a fold over the 64 positions, each visited once; a press acts on the key state of its own position alone,
and a request it makes leaves the reply queue alone wherever the host still takes frames. -/
theorem loadKeypadRecomputesTheCount : Obligations.LoadKeypadRecomputesTheCount := by
  unfold Obligations.LoadKeypadRecomputesTheCount
  intro s tag r order ready storing fits basis n s1
  have taken := exec_loadKeypad tag order ready storing fits
  have loaded : keypadLoaded r s = s1 := rfl
  refine ⟨fun kept => ?_, fun masking ends => ?_⟩
  · refine exec_replied ready taken ?_ ready.delivers (by decide)
    have quiet : (s.pad.record.ghostMasking && !r.ghostMasking) = false := by
      rcases kept with off | on
      · rw [off]
        rfl
      · rw [on, Bool.not_true, Bool.and_false]
    rw [applyLoadKeypad_eq, quiet, loaded]
    rfl
  · intro masked
    have visits := foldl_unmaskAtLoad_visited order allPositions_nodup (keypadLoaded r s)
    obtain ⟨t, done, pad, keymap, replies⟩ :=
      exec_loadKeypad_unmasking (tag := tag) ready storing fits masking ends rfl visits.replies
    rw [visits.count] at replies
    refine ⟨t, done, ?_⟩
    rw [pad, keymap]
    refine ⟨visits.record, visits.basis, visits.count, visits.nextScan, visits.scanning, fun p free => ?_, fun p state => ?_,
      fun p state previous => ?_, fun p held => ?_, replies⟩
    · obtain ⟨resolution, code⟩ := visits.others p (.inr free)
      exact ⟨(visits.seen p (mem_allPositions p)).trans (unmasked_of_free free), resolution, code⟩
    · exact (visits.seen p (mem_allPositions p)).trans (if_pos state)
    · have free : ¬ s.pad.positions[p].state = .masked := by
        rw [state]
        exact nofun
      exact (visits.seen p (mem_allPositions p)).trans ((if_neg free).trans (if_pos ⟨state, previous⟩))
    · exact visits.pressed p (mem_allPositions p) held

end Sys2Proof.Machine
end
